-- ==== Sys2Proof/Word.lean ====
section
/-! DEFINITION. The two word types of GB-CORE: the byte and the 16-bit word (10_state.md R10, R11, R17; 20_memory.md R40). -/

namespace Sys2Proof

/-- A u8 (00_scope.md R7): a register cell, a memory byte, an opcode byte. -/
abbrev Byte := BitVec 8

/-- A u16 (00_scope.md R7): an address, a register pair, PC or SP. -/
abbrev Word := BitVec 16

end Sys2Proof
end

