-- ==== Sys2Proof/WellFormed.lean ====
section
/-! DEFINITION. Which terms of `Instr` are whole instructions as the spec encodes them.  Every operand is as wide as its field,
so only two constructors have something to check. -/

namespace Sys2Proof

/-- The eleven bytes without an instruction (30_encoding.md R102). -/
def unmappedOpcodes : List Byte := [0xD3, 0xDB, 0xDD, 0xE3, 0xE4, 0xEB, 0xEC, 0xED, 0xF4, 0xFC, 0xFD]

/-- `unmapped` carries one of the eleven bytes (30_encoding.md R102), and the prefix byte is not an instruction by itself
(R103). -/
def WellFormed (i : Instr) : Bool :=
  match i with
  | .unmapped op => unmappedOpcodes.contains op
  | .prefix_cb => false
  | _ => true

end Sys2Proof
end

