-- ==== Sys2Proof/Decode.lean ====
section
/-! DEFINITION. The decoder, written from the field tables of 30_encoding.md (R91 to R100), and after it the encoder, written
from the opcode rows (R98 to R100, spec/opcode_table.json). -/

namespace Sys2Proof

/-- The word with high byte `hi` and low byte `lo`: `{hi, lo}` (00_scope.md R7). -/
def word (hi lo : Byte) : Word := BitVec.ofNat 16 (hi.toNat * 256 + lo.toNat)

/-- `v[15:8]`. -/
def hiByte (v : Word) : Byte := BitVec.ofNat 8 (v.toNat / 256)

/-- `v[7:0]`. -/
def loByte (v : Word) : Byte := BitVec.ofNat 8 v.toNat

/-! The register-indexed families of the table, by their operands: `Form.ldRegReg .b .c` is the row `LD B,C`. -/

/-- `LD r,r'` (40_load8.md R110). -/
def Form.ldRegReg (x : Reg8) (y : Reg8) : Instr :=
  match x, y with
  | .b, .b => .ld_b_b
  | .b, .c => .ld_b_c
  | .b, .d => .ld_b_d
  | .b, .e => .ld_b_e
  | .b, .h => .ld_b_h
  | .b, .l => .ld_b_l
  | .b, .a => .ld_b_a
  | .c, .b => .ld_c_b
  | .c, .c => .ld_c_c
  | .c, .d => .ld_c_d
  | .c, .e => .ld_c_e
  | .c, .h => .ld_c_h
  | .c, .l => .ld_c_l
  | .c, .a => .ld_c_a
  | .d, .b => .ld_d_b
  | .d, .c => .ld_d_c
  | .d, .d => .ld_d_d
  | .d, .e => .ld_d_e
  | .d, .h => .ld_d_h
  | .d, .l => .ld_d_l
  | .d, .a => .ld_d_a
  | .e, .b => .ld_e_b
  | .e, .c => .ld_e_c
  | .e, .d => .ld_e_d
  | .e, .e => .ld_e_e
  | .e, .h => .ld_e_h
  | .e, .l => .ld_e_l
  | .e, .a => .ld_e_a
  | .h, .b => .ld_h_b
  | .h, .c => .ld_h_c
  | .h, .d => .ld_h_d
  | .h, .e => .ld_h_e
  | .h, .h => .ld_h_h
  | .h, .l => .ld_h_l
  | .h, .a => .ld_h_a
  | .l, .b => .ld_l_b
  | .l, .c => .ld_l_c
  | .l, .d => .ld_l_d
  | .l, .e => .ld_l_e
  | .l, .h => .ld_l_h
  | .l, .l => .ld_l_l
  | .l, .a => .ld_l_a
  | .a, .b => .ld_a_b
  | .a, .c => .ld_a_c
  | .a, .d => .ld_a_d
  | .a, .e => .ld_a_e
  | .a, .h => .ld_a_h
  | .a, .l => .ld_a_l
  | .a, .a => .ld_a_a

/-- `LD r,n` (R111). -/
def Form.ldRegImm (x : Reg8) (n : Byte) : Instr :=
  match x with
  | .b => .ld_b_n n
  | .c => .ld_c_n n
  | .d => .ld_d_n n
  | .e => .ld_e_n n
  | .h => .ld_h_n n
  | .l => .ld_l_n n
  | .a => .ld_a_n n

/-- `LD r,(HL)` (R112). -/
def Form.ldRegMhl (x : Reg8) : Instr :=
  match x with
  | .b => .ld_b_mhl
  | .c => .ld_c_mhl
  | .d => .ld_d_mhl
  | .e => .ld_e_mhl
  | .h => .ld_h_mhl
  | .l => .ld_l_mhl
  | .a => .ld_a_mhl

/-- `LD (HL),r` (R113). -/
def Form.ldMhlReg (x : Reg8) : Instr :=
  match x with
  | .b => .ld_mhl_b
  | .c => .ld_mhl_c
  | .d => .ld_mhl_d
  | .e => .ld_mhl_e
  | .h => .ld_mhl_h
  | .l => .ld_mhl_l
  | .a => .ld_mhl_a

/-- `LD rr,nn` (41_load16_stack.md R140). -/
def Form.ldPairImm (x : Pair16) (nn : Word) : Instr :=
  match x with
  | .bc => .ld_bc_nn nn
  | .de => .ld_de_nn nn
  | .hl => .ld_hl_nn nn
  | .sp => .ld_sp_nn nn

/-- `PUSH qq` (R144). -/
def Form.push (x : StackPair) : Instr :=
  match x with
  | .bc => .push_bc
  | .de => .push_de
  | .hl => .push_hl
  | .af => .push_af

/-- `POP qq` (R145). -/
def Form.pop (x : StackPair) : Instr :=
  match x with
  | .bc => .pop_bc
  | .de => .pop_de
  | .hl => .pop_hl
  | .af => .pop_af

/-- An accumulator operation on a register (42_alu8.md R150). -/
def Form.aluReg (x : AluOp) (y : Reg8) : Instr :=
  match x, y with
  | .add, .b => .add_a_b
  | .add, .c => .add_a_c
  | .add, .d => .add_a_d
  | .add, .e => .add_a_e
  | .add, .h => .add_a_h
  | .add, .l => .add_a_l
  | .add, .a => .add_a_a
  | .adc, .b => .adc_a_b
  | .adc, .c => .adc_a_c
  | .adc, .d => .adc_a_d
  | .adc, .e => .adc_a_e
  | .adc, .h => .adc_a_h
  | .adc, .l => .adc_a_l
  | .adc, .a => .adc_a_a
  | .sub, .b => .sub_b
  | .sub, .c => .sub_c
  | .sub, .d => .sub_d
  | .sub, .e => .sub_e
  | .sub, .h => .sub_h
  | .sub, .l => .sub_l
  | .sub, .a => .sub_a
  | .sbc, .b => .sbc_a_b
  | .sbc, .c => .sbc_a_c
  | .sbc, .d => .sbc_a_d
  | .sbc, .e => .sbc_a_e
  | .sbc, .h => .sbc_a_h
  | .sbc, .l => .sbc_a_l
  | .sbc, .a => .sbc_a_a
  | .and, .b => .and_b
  | .and, .c => .and_c
  | .and, .d => .and_d
  | .and, .e => .and_e
  | .and, .h => .and_h
  | .and, .l => .and_l
  | .and, .a => .and_a
  | .xor, .b => .xor_b
  | .xor, .c => .xor_c
  | .xor, .d => .xor_d
  | .xor, .e => .xor_e
  | .xor, .h => .xor_h
  | .xor, .l => .xor_l
  | .xor, .a => .xor_a
  | .or, .b => .or_b
  | .or, .c => .or_c
  | .or, .d => .or_d
  | .or, .e => .or_e
  | .or, .h => .or_h
  | .or, .l => .or_l
  | .or, .a => .or_a
  | .cp, .b => .cp_b
  | .cp, .c => .cp_c
  | .cp, .d => .cp_d
  | .cp, .e => .cp_e
  | .cp, .h => .cp_h
  | .cp, .l => .cp_l
  | .cp, .a => .cp_a

/-- An accumulator operation on the byte at HL (R150). -/
def Form.aluMhl (x : AluOp) : Instr :=
  match x with
  | .add => .add_a_mhl
  | .adc => .adc_a_mhl
  | .sub => .sub_mhl
  | .sbc => .sbc_a_mhl
  | .and => .and_mhl
  | .xor => .xor_mhl
  | .or => .or_mhl
  | .cp => .cp_mhl

/-- An accumulator operation on an immediate (R150). -/
def Form.aluImm (x : AluOp) (n : Byte) : Instr :=
  match x with
  | .add => .add_a_n n
  | .adc => .adc_a_n n
  | .sub => .sub_n n
  | .sbc => .sbc_a_n n
  | .and => .and_n n
  | .xor => .xor_n n
  | .or => .or_n n
  | .cp => .cp_n n

/-- `INC r` (R159). -/
def Form.incReg (x : Reg8) : Instr :=
  match x with
  | .b => .inc_b
  | .c => .inc_c
  | .d => .inc_d
  | .e => .inc_e
  | .h => .inc_h
  | .l => .inc_l
  | .a => .inc_a

/-- `DEC r` (R161). -/
def Form.decReg (x : Reg8) : Instr :=
  match x with
  | .b => .dec_b
  | .c => .dec_c
  | .d => .dec_d
  | .e => .dec_e
  | .h => .dec_h
  | .l => .dec_l
  | .a => .dec_a

/-- `ADD HL,rr` (43_alu16.md R180). -/
def Form.addHlPair (x : Pair16) : Instr :=
  match x with
  | .bc => .add_hl_bc
  | .de => .add_hl_de
  | .hl => .add_hl_hl
  | .sp => .add_hl_sp

/-- `INC rr` (R181). -/
def Form.incPair (x : Pair16) : Instr :=
  match x with
  | .bc => .inc_bc
  | .de => .inc_de
  | .hl => .inc_hl
  | .sp => .inc_sp

/-- `DEC rr` (R182). -/
def Form.decPair (x : Pair16) : Instr :=
  match x with
  | .bc => .dec_bc
  | .de => .dec_de
  | .hl => .dec_hl
  | .sp => .dec_sp

/-- The accumulator rotates (44_rotate_shift_bit.md R190 to R193). -/
def Form.accRot (x : AccRotOp) : Instr :=
  match x with
  | .rlca => .rlca
  | .rrca => .rrca
  | .rla => .rla
  | .rra => .rra

/-- A CB-table rotate, shift or SWAP (R195 to R202). -/
def Form.rot (x : RotOp) (y : Operand8) : Instr :=
  match x, y with
  | .rlc, .reg .b => .rlc_b
  | .rlc, .reg .c => .rlc_c
  | .rlc, .reg .d => .rlc_d
  | .rlc, .reg .e => .rlc_e
  | .rlc, .reg .h => .rlc_h
  | .rlc, .reg .l => .rlc_l
  | .rlc, .reg .a => .rlc_a
  | .rlc, .mhl => .rlc_mhl
  | .rrc, .reg .b => .rrc_b
  | .rrc, .reg .c => .rrc_c
  | .rrc, .reg .d => .rrc_d
  | .rrc, .reg .e => .rrc_e
  | .rrc, .reg .h => .rrc_h
  | .rrc, .reg .l => .rrc_l
  | .rrc, .reg .a => .rrc_a
  | .rrc, .mhl => .rrc_mhl
  | .rl, .reg .b => .rl_b
  | .rl, .reg .c => .rl_c
  | .rl, .reg .d => .rl_d
  | .rl, .reg .e => .rl_e
  | .rl, .reg .h => .rl_h
  | .rl, .reg .l => .rl_l
  | .rl, .reg .a => .rl_a
  | .rl, .mhl => .rl_mhl
  | .rr, .reg .b => .rr_b
  | .rr, .reg .c => .rr_c
  | .rr, .reg .d => .rr_d
  | .rr, .reg .e => .rr_e
  | .rr, .reg .h => .rr_h
  | .rr, .reg .l => .rr_l
  | .rr, .reg .a => .rr_a
  | .rr, .mhl => .rr_mhl
  | .sla, .reg .b => .sla_b
  | .sla, .reg .c => .sla_c
  | .sla, .reg .d => .sla_d
  | .sla, .reg .e => .sla_e
  | .sla, .reg .h => .sla_h
  | .sla, .reg .l => .sla_l
  | .sla, .reg .a => .sla_a
  | .sla, .mhl => .sla_mhl
  | .sra, .reg .b => .sra_b
  | .sra, .reg .c => .sra_c
  | .sra, .reg .d => .sra_d
  | .sra, .reg .e => .sra_e
  | .sra, .reg .h => .sra_h
  | .sra, .reg .l => .sra_l
  | .sra, .reg .a => .sra_a
  | .sra, .mhl => .sra_mhl
  | .swap, .reg .b => .swap_b
  | .swap, .reg .c => .swap_c
  | .swap, .reg .d => .swap_d
  | .swap, .reg .e => .swap_e
  | .swap, .reg .h => .swap_h
  | .swap, .reg .l => .swap_l
  | .swap, .reg .a => .swap_a
  | .swap, .mhl => .swap_mhl
  | .srl, .reg .b => .srl_b
  | .srl, .reg .c => .srl_c
  | .srl, .reg .d => .srl_d
  | .srl, .reg .e => .srl_e
  | .srl, .reg .h => .srl_h
  | .srl, .reg .l => .srl_l
  | .srl, .reg .a => .srl_a
  | .srl, .mhl => .srl_mhl

/-- `BIT b,s` (R203). -/
def Form.bit (x : BitIndex) (y : Operand8) : Instr :=
  match x, y with
  | .b0, .reg .b => .bit_0_b
  | .b0, .reg .c => .bit_0_c
  | .b0, .reg .d => .bit_0_d
  | .b0, .reg .e => .bit_0_e
  | .b0, .reg .h => .bit_0_h
  | .b0, .reg .l => .bit_0_l
  | .b0, .reg .a => .bit_0_a
  | .b0, .mhl => .bit_0_mhl
  | .b1, .reg .b => .bit_1_b
  | .b1, .reg .c => .bit_1_c
  | .b1, .reg .d => .bit_1_d
  | .b1, .reg .e => .bit_1_e
  | .b1, .reg .h => .bit_1_h
  | .b1, .reg .l => .bit_1_l
  | .b1, .reg .a => .bit_1_a
  | .b1, .mhl => .bit_1_mhl
  | .b2, .reg .b => .bit_2_b
  | .b2, .reg .c => .bit_2_c
  | .b2, .reg .d => .bit_2_d
  | .b2, .reg .e => .bit_2_e
  | .b2, .reg .h => .bit_2_h
  | .b2, .reg .l => .bit_2_l
  | .b2, .reg .a => .bit_2_a
  | .b2, .mhl => .bit_2_mhl
  | .b3, .reg .b => .bit_3_b
  | .b3, .reg .c => .bit_3_c
  | .b3, .reg .d => .bit_3_d
  | .b3, .reg .e => .bit_3_e
  | .b3, .reg .h => .bit_3_h
  | .b3, .reg .l => .bit_3_l
  | .b3, .reg .a => .bit_3_a
  | .b3, .mhl => .bit_3_mhl
  | .b4, .reg .b => .bit_4_b
  | .b4, .reg .c => .bit_4_c
  | .b4, .reg .d => .bit_4_d
  | .b4, .reg .e => .bit_4_e
  | .b4, .reg .h => .bit_4_h
  | .b4, .reg .l => .bit_4_l
  | .b4, .reg .a => .bit_4_a
  | .b4, .mhl => .bit_4_mhl
  | .b5, .reg .b => .bit_5_b
  | .b5, .reg .c => .bit_5_c
  | .b5, .reg .d => .bit_5_d
  | .b5, .reg .e => .bit_5_e
  | .b5, .reg .h => .bit_5_h
  | .b5, .reg .l => .bit_5_l
  | .b5, .reg .a => .bit_5_a
  | .b5, .mhl => .bit_5_mhl
  | .b6, .reg .b => .bit_6_b
  | .b6, .reg .c => .bit_6_c
  | .b6, .reg .d => .bit_6_d
  | .b6, .reg .e => .bit_6_e
  | .b6, .reg .h => .bit_6_h
  | .b6, .reg .l => .bit_6_l
  | .b6, .reg .a => .bit_6_a
  | .b6, .mhl => .bit_6_mhl
  | .b7, .reg .b => .bit_7_b
  | .b7, .reg .c => .bit_7_c
  | .b7, .reg .d => .bit_7_d
  | .b7, .reg .e => .bit_7_e
  | .b7, .reg .h => .bit_7_h
  | .b7, .reg .l => .bit_7_l
  | .b7, .reg .a => .bit_7_a
  | .b7, .mhl => .bit_7_mhl

/-- `RES b,s` (R204). -/
def Form.res (x : BitIndex) (y : Operand8) : Instr :=
  match x, y with
  | .b0, .reg .b => .res_0_b
  | .b0, .reg .c => .res_0_c
  | .b0, .reg .d => .res_0_d
  | .b0, .reg .e => .res_0_e
  | .b0, .reg .h => .res_0_h
  | .b0, .reg .l => .res_0_l
  | .b0, .reg .a => .res_0_a
  | .b0, .mhl => .res_0_mhl
  | .b1, .reg .b => .res_1_b
  | .b1, .reg .c => .res_1_c
  | .b1, .reg .d => .res_1_d
  | .b1, .reg .e => .res_1_e
  | .b1, .reg .h => .res_1_h
  | .b1, .reg .l => .res_1_l
  | .b1, .reg .a => .res_1_a
  | .b1, .mhl => .res_1_mhl
  | .b2, .reg .b => .res_2_b
  | .b2, .reg .c => .res_2_c
  | .b2, .reg .d => .res_2_d
  | .b2, .reg .e => .res_2_e
  | .b2, .reg .h => .res_2_h
  | .b2, .reg .l => .res_2_l
  | .b2, .reg .a => .res_2_a
  | .b2, .mhl => .res_2_mhl
  | .b3, .reg .b => .res_3_b
  | .b3, .reg .c => .res_3_c
  | .b3, .reg .d => .res_3_d
  | .b3, .reg .e => .res_3_e
  | .b3, .reg .h => .res_3_h
  | .b3, .reg .l => .res_3_l
  | .b3, .reg .a => .res_3_a
  | .b3, .mhl => .res_3_mhl
  | .b4, .reg .b => .res_4_b
  | .b4, .reg .c => .res_4_c
  | .b4, .reg .d => .res_4_d
  | .b4, .reg .e => .res_4_e
  | .b4, .reg .h => .res_4_h
  | .b4, .reg .l => .res_4_l
  | .b4, .reg .a => .res_4_a
  | .b4, .mhl => .res_4_mhl
  | .b5, .reg .b => .res_5_b
  | .b5, .reg .c => .res_5_c
  | .b5, .reg .d => .res_5_d
  | .b5, .reg .e => .res_5_e
  | .b5, .reg .h => .res_5_h
  | .b5, .reg .l => .res_5_l
  | .b5, .reg .a => .res_5_a
  | .b5, .mhl => .res_5_mhl
  | .b6, .reg .b => .res_6_b
  | .b6, .reg .c => .res_6_c
  | .b6, .reg .d => .res_6_d
  | .b6, .reg .e => .res_6_e
  | .b6, .reg .h => .res_6_h
  | .b6, .reg .l => .res_6_l
  | .b6, .reg .a => .res_6_a
  | .b6, .mhl => .res_6_mhl
  | .b7, .reg .b => .res_7_b
  | .b7, .reg .c => .res_7_c
  | .b7, .reg .d => .res_7_d
  | .b7, .reg .e => .res_7_e
  | .b7, .reg .h => .res_7_h
  | .b7, .reg .l => .res_7_l
  | .b7, .reg .a => .res_7_a
  | .b7, .mhl => .res_7_mhl

/-- `SET b,s` (R205). -/
def Form.set (x : BitIndex) (y : Operand8) : Instr :=
  match x, y with
  | .b0, .reg .b => .set_0_b
  | .b0, .reg .c => .set_0_c
  | .b0, .reg .d => .set_0_d
  | .b0, .reg .e => .set_0_e
  | .b0, .reg .h => .set_0_h
  | .b0, .reg .l => .set_0_l
  | .b0, .reg .a => .set_0_a
  | .b0, .mhl => .set_0_mhl
  | .b1, .reg .b => .set_1_b
  | .b1, .reg .c => .set_1_c
  | .b1, .reg .d => .set_1_d
  | .b1, .reg .e => .set_1_e
  | .b1, .reg .h => .set_1_h
  | .b1, .reg .l => .set_1_l
  | .b1, .reg .a => .set_1_a
  | .b1, .mhl => .set_1_mhl
  | .b2, .reg .b => .set_2_b
  | .b2, .reg .c => .set_2_c
  | .b2, .reg .d => .set_2_d
  | .b2, .reg .e => .set_2_e
  | .b2, .reg .h => .set_2_h
  | .b2, .reg .l => .set_2_l
  | .b2, .reg .a => .set_2_a
  | .b2, .mhl => .set_2_mhl
  | .b3, .reg .b => .set_3_b
  | .b3, .reg .c => .set_3_c
  | .b3, .reg .d => .set_3_d
  | .b3, .reg .e => .set_3_e
  | .b3, .reg .h => .set_3_h
  | .b3, .reg .l => .set_3_l
  | .b3, .reg .a => .set_3_a
  | .b3, .mhl => .set_3_mhl
  | .b4, .reg .b => .set_4_b
  | .b4, .reg .c => .set_4_c
  | .b4, .reg .d => .set_4_d
  | .b4, .reg .e => .set_4_e
  | .b4, .reg .h => .set_4_h
  | .b4, .reg .l => .set_4_l
  | .b4, .reg .a => .set_4_a
  | .b4, .mhl => .set_4_mhl
  | .b5, .reg .b => .set_5_b
  | .b5, .reg .c => .set_5_c
  | .b5, .reg .d => .set_5_d
  | .b5, .reg .e => .set_5_e
  | .b5, .reg .h => .set_5_h
  | .b5, .reg .l => .set_5_l
  | .b5, .reg .a => .set_5_a
  | .b5, .mhl => .set_5_mhl
  | .b6, .reg .b => .set_6_b
  | .b6, .reg .c => .set_6_c
  | .b6, .reg .d => .set_6_d
  | .b6, .reg .e => .set_6_e
  | .b6, .reg .h => .set_6_h
  | .b6, .reg .l => .set_6_l
  | .b6, .reg .a => .set_6_a
  | .b6, .mhl => .set_6_mhl
  | .b7, .reg .b => .set_7_b
  | .b7, .reg .c => .set_7_c
  | .b7, .reg .d => .set_7_d
  | .b7, .reg .e => .set_7_e
  | .b7, .reg .h => .set_7_h
  | .b7, .reg .l => .set_7_l
  | .b7, .reg .a => .set_7_a
  | .b7, .mhl => .set_7_mhl

/-- `JP cc,nn` (45_control.md R222). -/
def Form.jpCond (x : Cond) (nn : Word) : Instr :=
  match x with
  | .nz => .jp_nz_nn nn
  | .z => .jp_z_nn nn
  | .nc => .jp_nc_nn nn
  | .c => .jp_c_nn nn

/-- `JR cc,e` (R225). -/
def Form.jrCond (x : Cond) (e : Byte) : Instr :=
  match x with
  | .nz => .jr_nz_e e
  | .z => .jr_z_e e
  | .nc => .jr_nc_e e
  | .c => .jr_c_e e

/-- `CALL cc,nn` (R227). -/
def Form.callCond (x : Cond) (nn : Word) : Instr :=
  match x with
  | .nz => .call_nz_nn nn
  | .z => .call_z_nn nn
  | .nc => .call_nc_nn nn
  | .c => .call_c_nn nn

/-- `RET cc` (R229). -/
def Form.retCond (x : Cond) : Instr :=
  match x with
  | .nz => .ret_nz
  | .z => .ret_z
  | .nc => .ret_nc
  | .c => .ret_c

/-- `RST t` (R231). -/
def Form.rst (x : RstIndex) : Instr :=
  match x with
  | .t00 => .rst_00h
  | .t08 => .rst_08h
  | .t10 => .rst_10h
  | .t18 => .rst_18h
  | .t20 => .rst_20h
  | .t28 => .rst_28h
  | .t30 => .rst_30h
  | .t38 => .rst_38h

/-! The fields of an encoding, and the indices of the operands (30_encoding.md R91, R94 to R97). -/

/-- An opcode byte, or the byte after the prefix, by its fields: `x*64 + y*8 + z` (R91). -/
def opcode (x y z : Nat) : Byte := BitVec.ofNat 8 (x * 64 + y * 8 + z)

/-- The index of a register cell (R94). -/
def regIndex (x : Reg8) : Nat :=
  match x with
  | .b => 0
  | .c => 1
  | .d => 2
  | .e => 3
  | .h => 4
  | .l => 5
  | .a => 7

/-- The index of an entry of `r8` (R94). -/
def operandIndex (x : Operand8) : Nat :=
  match x with
  | .reg r => regIndex r
  | .mhl => 6

/-- The index of an entry of `rr` (R95). -/
def pairIndex (x : Pair16) : Nat :=
  match x with
  | .bc => 0
  | .de => 1
  | .hl => 2
  | .sp => 3

/-- The index of an entry of `qq` (R95). -/
def stackIndex (x : StackPair) : Nat :=
  match x with
  | .bc => 0
  | .de => 1
  | .hl => 2
  | .af => 3

/-- The index of a condition (R96). -/
def condIndex (x : Cond) : Nat :=
  match x with
  | .nz => 0
  | .z => 1
  | .nc => 2
  | .c => 3

/-- The index of an accumulator operation (R97). -/
def aluIndex (x : AluOp) : Nat :=
  match x with
  | .add => 0
  | .adc => 1
  | .sub => 2
  | .sbc => 3
  | .and => 4
  | .xor => 5
  | .or => 6
  | .cp => 7

/-- The index of a rotate or shift (R97). -/
def rotIndex (x : RotOp) : Nat :=
  match x with
  | .rlc => 0
  | .rrc => 1
  | .rl => 2
  | .rr => 3
  | .sla => 4
  | .sra => 5
  | .swap => 6
  | .srl => 7

/-- The index of an accumulator rotate (R97). -/
def accRotIndex (x : AccRotOp) : Nat :=
  match x with
  | .rlca => 0
  | .rrca => 1
  | .rla => 2
  | .rra => 3

/-- The bit number an index names (R93). -/
def bitNumber (x : BitIndex) : Nat :=
  match x with
  | .b0 => 0
  | .b1 => 1
  | .b2 => 2
  | .b3 => 3
  | .b4 => 4
  | .b5 => 5
  | .b6 => 6
  | .b7 => 7

/-- The index of `RST`: its target is 8 times it (R93). -/
def rstIndex (x : RstIndex) : Nat :=
  match x with
  | .t00 => 0
  | .t08 => 1
  | .t10 => 2
  | .t18 => 3
  | .t20 => 4
  | .t28 => 5
  | .t30 => 6
  | .t38 => 7

/-! The operand tables, indexed by a field of the opcode (30_encoding.md R94 to R96). -/

/-- `r8[i]` (R94). -/
def r8 (i : Nat) : Operand8 :=
  match i with
  | 0 => .reg .b
  | 1 => .reg .c
  | 2 => .reg .d
  | 3 => .reg .e
  | 4 => .reg .h
  | 5 => .reg .l
  | 6 => .mhl
  | _ => .reg .a

/-- `rr[p]` (R95). -/
def rrPair (p : Nat) : Pair16 :=
  match p with
  | 0 => .bc
  | 1 => .de
  | 2 => .hl
  | _ => .sp

/-- `qq[p]` (R95). -/
def qqPair (p : Nat) : StackPair :=
  match p with
  | 0 => .bc
  | 1 => .de
  | 2 => .hl
  | _ => .af

/-- `cc[i]` (R96). -/
def ccOf (i : Nat) : Cond :=
  match i with
  | 0 => .nz
  | 1 => .z
  | 2 => .nc
  | _ => .c

/-- `alu[y]` (R97). -/
def aluOf (y : Nat) : AluOp :=
  match y with
  | 0 => .add
  | 1 => .adc
  | 2 => .sub
  | 3 => .sbc
  | 4 => .and
  | 5 => .xor
  | 6 => .or
  | _ => .cp

/-- `rot[y]` (R97). -/
def rotOf (y : Nat) : RotOp :=
  match y with
  | 0 => .rlc
  | 1 => .rrc
  | 2 => .rl
  | 3 => .rr
  | 4 => .sla
  | 5 => .sra
  | 6 => .swap
  | _ => .srl

/-- The bit number `b = op2[5:3]` (R93). -/
def bitOf (y : Nat) : BitIndex :=
  match y with
  | 0 => .b0
  | 1 => .b1
  | 2 => .b2
  | 3 => .b3
  | 4 => .b4
  | 5 => .b5
  | 6 => .b6
  | _ => .b7

/-- The index of `RST` (R93). -/
def rstOf (y : Nat) : RstIndex :=
  match y with
  | 0 => .t00
  | 1 => .t08
  | 2 => .t10
  | 3 => .t18
  | 4 => .t20
  | 5 => .t28
  | 6 => .t30
  | _ => .t38

/-- The rows x = 0 of the base table (R98).  `op` is the opcode byte, `n` the byte after it, `nn` the word after it. -/
def decodeX0 (op n : Byte) (nn : Word) : Instr :=
  let y := op.toNat / 8 % 8
  let p := op.toNat / 16 % 4
  let q := op.toNat / 8 % 2
  match op.toNat % 8 with
  | 0 =>
    match y with
    | 0 => .nop
    | 1 => .ld_mnn_sp nn
    | 2 => .stop n
    | 3 => .jr_e n
    | _ => Form.jrCond (ccOf (y - 4)) n
  | 1 => if q = 0 then Form.ldPairImm (rrPair p) nn else Form.addHlPair (rrPair p)
  | 2 =>
    match y with
    | 0 => .ld_mbc_a
    | 1 => .ld_a_mbc
    | 2 => .ld_mde_a
    | 3 => .ld_a_mde
    | 4 => .ld_mhli_a
    | 5 => .ld_a_mhli
    | 6 => .ld_mhld_a
    | _ => .ld_a_mhld
  | 3 => if q = 0 then Form.incPair (rrPair p) else Form.decPair (rrPair p)
  | 4 =>
    match r8 y with
    | .reg r => Form.incReg r
    | .mhl => .inc_mhl
  | 5 =>
    match r8 y with
    | .reg r => Form.decReg r
    | .mhl => .dec_mhl
  | 6 =>
    match r8 y with
    | .reg r => Form.ldRegImm r n
    | .mhl => .ld_mhl_n n
  | _ =>
    match y with
    | 0 => .rlca
    | 1 => .rrca
    | 2 => .rla
    | 3 => .rra
    | 4 => .daa
    | 5 => .cpl
    | 6 => .scf
    | _ => .ccf

/-- The rows x = 1 (R98); the encoding that would be `LD (HL),(HL)` is HALT (R94). -/
def decodeX1 (op : Byte) : Instr :=
  match r8 (op.toNat / 8 % 8), r8 (op.toNat % 8) with
  | .reg x, .reg y => Form.ldRegReg x y
  | .reg x, .mhl => Form.ldRegMhl x
  | .mhl, .reg y => Form.ldMhlReg y
  | .mhl, .mhl => .halt

/-- The rows x = 2 (R98). -/
def decodeX2 (op : Byte) : Instr :=
  match r8 (op.toNat % 8) with
  | .reg r => Form.aluReg (aluOf (op.toNat / 8 % 8)) r
  | .mhl => Form.aluMhl (aluOf (op.toNat / 8 % 8))

/-- The CB table (R100): the instruction of the byte after the prefix. -/
def decodeCb (op2 : Byte) : Instr :=
  let y := op2.toNat / 8 % 8
  let s := r8 (op2.toNat % 8)
  match op2.toNat / 64 with
  | 0 => Form.rot (rotOf y) s
  | 1 => Form.bit (bitOf y) s
  | 2 => Form.res (bitOf y) s
  | _ => Form.set (bitOf y) s

/-- The rows x = 3 (R98), the prefix (R103) and the eleven unmapped bytes (R102) among them. -/
def decodeX3 (op n : Byte) (nn : Word) : Instr :=
  let y := op.toNat / 8 % 8
  let p := op.toNat / 16 % 4
  let q := op.toNat / 8 % 2
  match op.toNat % 8 with
  | 0 =>
    match y with
    | 4 => .ldh_mn_a n
    | 5 => .add_sp_e n
    | 6 => .ldh_a_mn n
    | 7 => .ld_hl_sp_e n
    | _ => Form.retCond (ccOf y)
  | 1 =>
    if q = 0 then Form.pop (qqPair p)
    else
      match p with
      | 0 => .ret
      | 1 => .reti
      | 2 => .jp_hl
      | _ => .ld_sp_hl
  | 2 =>
    match y with
    | 4 => .ldh_mc_a
    | 5 => .ld_mnn_a nn
    | 6 => .ldh_a_mc
    | 7 => .ld_a_mnn nn
    | _ => Form.jpCond (ccOf y) nn
  | 3 =>
    match y with
    | 0 => .jp_nn nn
    | 1 => decodeCb n
    | 6 => .di
    | 7 => .ei
    | _ => .unmapped op
  | 4 => if y < 4 then Form.callCond (ccOf y) nn else .unmapped op
  | 5 => if q = 0 then Form.push (qqPair p) else if p = 0 then .call_nn nn else .unmapped op
  | 6 => Form.aluImm (aluOf y) n
  | _ => Form.rst (rstOf y)

/-- The instruction with opcode byte `op` when the bytes `b1` and `b2` follow it; those its format does not have are not
looked at (R92, R98). -/
def decodeOpcode (op b1 b2 : Byte) : Instr :=
  match op.toNat / 64 with
  | 0 => decodeX0 op b1 (word b2 b1)
  | 1 => decodeX1 op
  | 2 => decodeX2 op
  | _ => decodeX3 op b1 (word b2 b1)

/-- The length in bytes of the instruction with opcode byte `op`: the first byte alone decides it (R90, R92).  `OP_NN`: x = 0
with z = 1, q = 0 and 0x08; x = 3 with z = 2 (but the two `LDH` forms with C), 0xC3, z = 4 with y < 4, and 0xCD.  `OP_N`, `OP_E` and
`CB`: x = 0 with z = 6, the JR forms and STOP; x = 3 with z = 6, z = 0 with y > 3, and 0xCB. -/
def opcodeLength (op : Byte) : Nat :=
  let y := op.toNat / 8 % 8
  match op.toNat / 64, op.toNat % 8 with
  | 0, 0 => if y = 0 then 1 else if y = 1 then 3 else 2
  | 0, 1 => if y % 2 = 0 then 3 else 1
  | 0, 6 => 2
  | 3, 0 => if y < 4 then 1 else 2
  | 3, 2 => if y < 4 ∨ y % 2 = 1 then 3 else 1
  | 3, 3 => if y = 0 then 3 else if y = 1 then 2 else 1
  | 3, 4 => if y < 4 then 3 else 1
  | 3, 5 => if y = 1 then 3 else 1
  | 3, 6 => 2
  | _, _ => 1

/-- Why a list of bytes does not decode.  No opcode byte is rejected: one without an instruction decodes to `unmapped`. -/
inductive DecodeReject where
  /-- The list ends before the instruction does. -/
  | truncated
  deriving DecidableEq, Repr

/-- What decoding a list of bytes gives: the instruction and the bytes after it, or the reason it is rejected. -/
inductive Decoded where
  | ok (i : Instr) (rest : List Byte)
  | rejected (r : DecodeReject)
  deriving DecidableEq, Repr

/-- The decoder, total on any bytes, the first at the lowest address (R90, R92). -/
def decode (bs : List Byte) : Decoded :=
  match bs with
  | [] => .rejected .truncated
  | op :: rest =>
    match opcodeLength op, rest with
    | 1, rest => .ok (decodeOpcode op 0 0) rest
    | 2, b1 :: rest => .ok (decodeOpcode op b1 0) rest
    | 3, b1 :: b2 :: rest => .ok (decodeOpcode op b1 b2) rest
    | _, _ => .rejected .truncated

/-- The bytes of an instruction, the first at the lowest address (R90, R98, R100, spec/opcode_table.json). -/
def encode (i : Instr) : List Byte :=
  match i with
  | .ld_bc_nn nn => [0x01, loByte nn, hiByte nn]
  | .ld_b_n n => [0x06, n]
  | .ld_mnn_sp nn => [0x08, loByte nn, hiByte nn]
  | .ld_c_n n => [0x0E, n]
  | .stop n => [0x10, n]
  | .ld_de_nn nn => [0x11, loByte nn, hiByte nn]
  | .ld_d_n n => [0x16, n]
  | .jr_e e => [0x18, e]
  | .ld_e_n n => [0x1E, n]
  | .jr_nz_e e => [0x20, e]
  | .ld_hl_nn nn => [0x21, loByte nn, hiByte nn]
  | .ld_h_n n => [0x26, n]
  | .jr_z_e e => [0x28, e]
  | .ld_l_n n => [0x2E, n]
  | .jr_nc_e e => [0x30, e]
  | .ld_sp_nn nn => [0x31, loByte nn, hiByte nn]
  | .ld_mhl_n n => [0x36, n]
  | .jr_c_e e => [0x38, e]
  | .ld_a_n n => [0x3E, n]
  | .jp_nz_nn nn => [0xC2, loByte nn, hiByte nn]
  | .jp_nn nn => [0xC3, loByte nn, hiByte nn]
  | .call_nz_nn nn => [0xC4, loByte nn, hiByte nn]
  | .add_a_n n => [0xC6, n]
  | .jp_z_nn nn => [0xCA, loByte nn, hiByte nn]
  | .call_z_nn nn => [0xCC, loByte nn, hiByte nn]
  | .call_nn nn => [0xCD, loByte nn, hiByte nn]
  | .adc_a_n n => [0xCE, n]
  | .jp_nc_nn nn => [0xD2, loByte nn, hiByte nn]
  | .unmapped op => [op]
  | .call_nc_nn nn => [0xD4, loByte nn, hiByte nn]
  | .sub_n n => [0xD6, n]
  | .jp_c_nn nn => [0xDA, loByte nn, hiByte nn]
  | .call_c_nn nn => [0xDC, loByte nn, hiByte nn]
  | .sbc_a_n n => [0xDE, n]
  | .ldh_mn_a n => [0xE0, n]
  | .and_n n => [0xE6, n]
  | .add_sp_e e => [0xE8, e]
  | .ld_mnn_a nn => [0xEA, loByte nn, hiByte nn]
  | .xor_n n => [0xEE, n]
  | .ldh_a_mn n => [0xF0, n]
  | .or_n n => [0xF6, n]
  | .ld_hl_sp_e e => [0xF8, e]
  | .ld_a_mnn nn => [0xFA, loByte nn, hiByte nn]
  | .cp_n n => [0xFE, n]
  | .nop => [0x00]
  | .ld_mbc_a => [0x02]
  | .inc_bc => [0x03]
  | .inc_b => [0x04]
  | .dec_b => [0x05]
  | .rlca => [0x07]
  | .add_hl_bc => [0x09]
  | .ld_a_mbc => [0x0A]
  | .dec_bc => [0x0B]
  | .inc_c => [0x0C]
  | .dec_c => [0x0D]
  | .rrca => [0x0F]
  | .ld_mde_a => [0x12]
  | .inc_de => [0x13]
  | .inc_d => [0x14]
  | .dec_d => [0x15]
  | .rla => [0x17]
  | .add_hl_de => [0x19]
  | .ld_a_mde => [0x1A]
  | .dec_de => [0x1B]
  | .inc_e => [0x1C]
  | .dec_e => [0x1D]
  | .rra => [0x1F]
  | .ld_mhli_a => [0x22]
  | .inc_hl => [0x23]
  | .inc_h => [0x24]
  | .dec_h => [0x25]
  | .daa => [0x27]
  | .add_hl_hl => [0x29]
  | .ld_a_mhli => [0x2A]
  | .dec_hl => [0x2B]
  | .inc_l => [0x2C]
  | .dec_l => [0x2D]
  | .cpl => [0x2F]
  | .ld_mhld_a => [0x32]
  | .inc_sp => [0x33]
  | .inc_mhl => [0x34]
  | .dec_mhl => [0x35]
  | .scf => [0x37]
  | .add_hl_sp => [0x39]
  | .ld_a_mhld => [0x3A]
  | .dec_sp => [0x3B]
  | .inc_a => [0x3C]
  | .dec_a => [0x3D]
  | .ccf => [0x3F]
  | .ld_b_b => [0x40]
  | .ld_b_c => [0x41]
  | .ld_b_d => [0x42]
  | .ld_b_e => [0x43]
  | .ld_b_h => [0x44]
  | .ld_b_l => [0x45]
  | .ld_b_mhl => [0x46]
  | .ld_b_a => [0x47]
  | .ld_c_b => [0x48]
  | .ld_c_c => [0x49]
  | .ld_c_d => [0x4A]
  | .ld_c_e => [0x4B]
  | .ld_c_h => [0x4C]
  | .ld_c_l => [0x4D]
  | .ld_c_mhl => [0x4E]
  | .ld_c_a => [0x4F]
  | .ld_d_b => [0x50]
  | .ld_d_c => [0x51]
  | .ld_d_d => [0x52]
  | .ld_d_e => [0x53]
  | .ld_d_h => [0x54]
  | .ld_d_l => [0x55]
  | .ld_d_mhl => [0x56]
  | .ld_d_a => [0x57]
  | .ld_e_b => [0x58]
  | .ld_e_c => [0x59]
  | .ld_e_d => [0x5A]
  | .ld_e_e => [0x5B]
  | .ld_e_h => [0x5C]
  | .ld_e_l => [0x5D]
  | .ld_e_mhl => [0x5E]
  | .ld_e_a => [0x5F]
  | .ld_h_b => [0x60]
  | .ld_h_c => [0x61]
  | .ld_h_d => [0x62]
  | .ld_h_e => [0x63]
  | .ld_h_h => [0x64]
  | .ld_h_l => [0x65]
  | .ld_h_mhl => [0x66]
  | .ld_h_a => [0x67]
  | .ld_l_b => [0x68]
  | .ld_l_c => [0x69]
  | .ld_l_d => [0x6A]
  | .ld_l_e => [0x6B]
  | .ld_l_h => [0x6C]
  | .ld_l_l => [0x6D]
  | .ld_l_mhl => [0x6E]
  | .ld_l_a => [0x6F]
  | .ld_mhl_b => [0x70]
  | .ld_mhl_c => [0x71]
  | .ld_mhl_d => [0x72]
  | .ld_mhl_e => [0x73]
  | .ld_mhl_h => [0x74]
  | .ld_mhl_l => [0x75]
  | .halt => [0x76]
  | .ld_mhl_a => [0x77]
  | .ld_a_b => [0x78]
  | .ld_a_c => [0x79]
  | .ld_a_d => [0x7A]
  | .ld_a_e => [0x7B]
  | .ld_a_h => [0x7C]
  | .ld_a_l => [0x7D]
  | .ld_a_mhl => [0x7E]
  | .ld_a_a => [0x7F]
  | .add_a_b => [0x80]
  | .add_a_c => [0x81]
  | .add_a_d => [0x82]
  | .add_a_e => [0x83]
  | .add_a_h => [0x84]
  | .add_a_l => [0x85]
  | .add_a_mhl => [0x86]
  | .add_a_a => [0x87]
  | .adc_a_b => [0x88]
  | .adc_a_c => [0x89]
  | .adc_a_d => [0x8A]
  | .adc_a_e => [0x8B]
  | .adc_a_h => [0x8C]
  | .adc_a_l => [0x8D]
  | .adc_a_mhl => [0x8E]
  | .adc_a_a => [0x8F]
  | .sub_b => [0x90]
  | .sub_c => [0x91]
  | .sub_d => [0x92]
  | .sub_e => [0x93]
  | .sub_h => [0x94]
  | .sub_l => [0x95]
  | .sub_mhl => [0x96]
  | .sub_a => [0x97]
  | .sbc_a_b => [0x98]
  | .sbc_a_c => [0x99]
  | .sbc_a_d => [0x9A]
  | .sbc_a_e => [0x9B]
  | .sbc_a_h => [0x9C]
  | .sbc_a_l => [0x9D]
  | .sbc_a_mhl => [0x9E]
  | .sbc_a_a => [0x9F]
  | .and_b => [0xA0]
  | .and_c => [0xA1]
  | .and_d => [0xA2]
  | .and_e => [0xA3]
  | .and_h => [0xA4]
  | .and_l => [0xA5]
  | .and_mhl => [0xA6]
  | .and_a => [0xA7]
  | .xor_b => [0xA8]
  | .xor_c => [0xA9]
  | .xor_d => [0xAA]
  | .xor_e => [0xAB]
  | .xor_h => [0xAC]
  | .xor_l => [0xAD]
  | .xor_mhl => [0xAE]
  | .xor_a => [0xAF]
  | .or_b => [0xB0]
  | .or_c => [0xB1]
  | .or_d => [0xB2]
  | .or_e => [0xB3]
  | .or_h => [0xB4]
  | .or_l => [0xB5]
  | .or_mhl => [0xB6]
  | .or_a => [0xB7]
  | .cp_b => [0xB8]
  | .cp_c => [0xB9]
  | .cp_d => [0xBA]
  | .cp_e => [0xBB]
  | .cp_h => [0xBC]
  | .cp_l => [0xBD]
  | .cp_mhl => [0xBE]
  | .cp_a => [0xBF]
  | .ret_nz => [0xC0]
  | .pop_bc => [0xC1]
  | .push_bc => [0xC5]
  | .rst_00h => [0xC7]
  | .ret_z => [0xC8]
  | .ret => [0xC9]
  | .prefix_cb => [0xCB]
  | .rst_08h => [0xCF]
  | .ret_nc => [0xD0]
  | .pop_de => [0xD1]
  | .push_de => [0xD5]
  | .rst_10h => [0xD7]
  | .ret_c => [0xD8]
  | .reti => [0xD9]
  | .rst_18h => [0xDF]
  | .pop_hl => [0xE1]
  | .ldh_mc_a => [0xE2]
  | .push_hl => [0xE5]
  | .rst_20h => [0xE7]
  | .jp_hl => [0xE9]
  | .rst_28h => [0xEF]
  | .pop_af => [0xF1]
  | .ldh_a_mc => [0xF2]
  | .di => [0xF3]
  | .push_af => [0xF5]
  | .rst_30h => [0xF7]
  | .ld_sp_hl => [0xF9]
  | .ei => [0xFB]
  | .rst_38h => [0xFF]
  | .rlc_b => [0xCB, 0x00]
  | .rlc_c => [0xCB, 0x01]
  | .rlc_d => [0xCB, 0x02]
  | .rlc_e => [0xCB, 0x03]
  | .rlc_h => [0xCB, 0x04]
  | .rlc_l => [0xCB, 0x05]
  | .rlc_mhl => [0xCB, 0x06]
  | .rlc_a => [0xCB, 0x07]
  | .rrc_b => [0xCB, 0x08]
  | .rrc_c => [0xCB, 0x09]
  | .rrc_d => [0xCB, 0x0A]
  | .rrc_e => [0xCB, 0x0B]
  | .rrc_h => [0xCB, 0x0C]
  | .rrc_l => [0xCB, 0x0D]
  | .rrc_mhl => [0xCB, 0x0E]
  | .rrc_a => [0xCB, 0x0F]
  | .rl_b => [0xCB, 0x10]
  | .rl_c => [0xCB, 0x11]
  | .rl_d => [0xCB, 0x12]
  | .rl_e => [0xCB, 0x13]
  | .rl_h => [0xCB, 0x14]
  | .rl_l => [0xCB, 0x15]
  | .rl_mhl => [0xCB, 0x16]
  | .rl_a => [0xCB, 0x17]
  | .rr_b => [0xCB, 0x18]
  | .rr_c => [0xCB, 0x19]
  | .rr_d => [0xCB, 0x1A]
  | .rr_e => [0xCB, 0x1B]
  | .rr_h => [0xCB, 0x1C]
  | .rr_l => [0xCB, 0x1D]
  | .rr_mhl => [0xCB, 0x1E]
  | .rr_a => [0xCB, 0x1F]
  | .sla_b => [0xCB, 0x20]
  | .sla_c => [0xCB, 0x21]
  | .sla_d => [0xCB, 0x22]
  | .sla_e => [0xCB, 0x23]
  | .sla_h => [0xCB, 0x24]
  | .sla_l => [0xCB, 0x25]
  | .sla_mhl => [0xCB, 0x26]
  | .sla_a => [0xCB, 0x27]
  | .sra_b => [0xCB, 0x28]
  | .sra_c => [0xCB, 0x29]
  | .sra_d => [0xCB, 0x2A]
  | .sra_e => [0xCB, 0x2B]
  | .sra_h => [0xCB, 0x2C]
  | .sra_l => [0xCB, 0x2D]
  | .sra_mhl => [0xCB, 0x2E]
  | .sra_a => [0xCB, 0x2F]
  | .swap_b => [0xCB, 0x30]
  | .swap_c => [0xCB, 0x31]
  | .swap_d => [0xCB, 0x32]
  | .swap_e => [0xCB, 0x33]
  | .swap_h => [0xCB, 0x34]
  | .swap_l => [0xCB, 0x35]
  | .swap_mhl => [0xCB, 0x36]
  | .swap_a => [0xCB, 0x37]
  | .srl_b => [0xCB, 0x38]
  | .srl_c => [0xCB, 0x39]
  | .srl_d => [0xCB, 0x3A]
  | .srl_e => [0xCB, 0x3B]
  | .srl_h => [0xCB, 0x3C]
  | .srl_l => [0xCB, 0x3D]
  | .srl_mhl => [0xCB, 0x3E]
  | .srl_a => [0xCB, 0x3F]
  | .bit_0_b => [0xCB, 0x40]
  | .bit_0_c => [0xCB, 0x41]
  | .bit_0_d => [0xCB, 0x42]
  | .bit_0_e => [0xCB, 0x43]
  | .bit_0_h => [0xCB, 0x44]
  | .bit_0_l => [0xCB, 0x45]
  | .bit_0_mhl => [0xCB, 0x46]
  | .bit_0_a => [0xCB, 0x47]
  | .bit_1_b => [0xCB, 0x48]
  | .bit_1_c => [0xCB, 0x49]
  | .bit_1_d => [0xCB, 0x4A]
  | .bit_1_e => [0xCB, 0x4B]
  | .bit_1_h => [0xCB, 0x4C]
  | .bit_1_l => [0xCB, 0x4D]
  | .bit_1_mhl => [0xCB, 0x4E]
  | .bit_1_a => [0xCB, 0x4F]
  | .bit_2_b => [0xCB, 0x50]
  | .bit_2_c => [0xCB, 0x51]
  | .bit_2_d => [0xCB, 0x52]
  | .bit_2_e => [0xCB, 0x53]
  | .bit_2_h => [0xCB, 0x54]
  | .bit_2_l => [0xCB, 0x55]
  | .bit_2_mhl => [0xCB, 0x56]
  | .bit_2_a => [0xCB, 0x57]
  | .bit_3_b => [0xCB, 0x58]
  | .bit_3_c => [0xCB, 0x59]
  | .bit_3_d => [0xCB, 0x5A]
  | .bit_3_e => [0xCB, 0x5B]
  | .bit_3_h => [0xCB, 0x5C]
  | .bit_3_l => [0xCB, 0x5D]
  | .bit_3_mhl => [0xCB, 0x5E]
  | .bit_3_a => [0xCB, 0x5F]
  | .bit_4_b => [0xCB, 0x60]
  | .bit_4_c => [0xCB, 0x61]
  | .bit_4_d => [0xCB, 0x62]
  | .bit_4_e => [0xCB, 0x63]
  | .bit_4_h => [0xCB, 0x64]
  | .bit_4_l => [0xCB, 0x65]
  | .bit_4_mhl => [0xCB, 0x66]
  | .bit_4_a => [0xCB, 0x67]
  | .bit_5_b => [0xCB, 0x68]
  | .bit_5_c => [0xCB, 0x69]
  | .bit_5_d => [0xCB, 0x6A]
  | .bit_5_e => [0xCB, 0x6B]
  | .bit_5_h => [0xCB, 0x6C]
  | .bit_5_l => [0xCB, 0x6D]
  | .bit_5_mhl => [0xCB, 0x6E]
  | .bit_5_a => [0xCB, 0x6F]
  | .bit_6_b => [0xCB, 0x70]
  | .bit_6_c => [0xCB, 0x71]
  | .bit_6_d => [0xCB, 0x72]
  | .bit_6_e => [0xCB, 0x73]
  | .bit_6_h => [0xCB, 0x74]
  | .bit_6_l => [0xCB, 0x75]
  | .bit_6_mhl => [0xCB, 0x76]
  | .bit_6_a => [0xCB, 0x77]
  | .bit_7_b => [0xCB, 0x78]
  | .bit_7_c => [0xCB, 0x79]
  | .bit_7_d => [0xCB, 0x7A]
  | .bit_7_e => [0xCB, 0x7B]
  | .bit_7_h => [0xCB, 0x7C]
  | .bit_7_l => [0xCB, 0x7D]
  | .bit_7_mhl => [0xCB, 0x7E]
  | .bit_7_a => [0xCB, 0x7F]
  | .res_0_b => [0xCB, 0x80]
  | .res_0_c => [0xCB, 0x81]
  | .res_0_d => [0xCB, 0x82]
  | .res_0_e => [0xCB, 0x83]
  | .res_0_h => [0xCB, 0x84]
  | .res_0_l => [0xCB, 0x85]
  | .res_0_mhl => [0xCB, 0x86]
  | .res_0_a => [0xCB, 0x87]
  | .res_1_b => [0xCB, 0x88]
  | .res_1_c => [0xCB, 0x89]
  | .res_1_d => [0xCB, 0x8A]
  | .res_1_e => [0xCB, 0x8B]
  | .res_1_h => [0xCB, 0x8C]
  | .res_1_l => [0xCB, 0x8D]
  | .res_1_mhl => [0xCB, 0x8E]
  | .res_1_a => [0xCB, 0x8F]
  | .res_2_b => [0xCB, 0x90]
  | .res_2_c => [0xCB, 0x91]
  | .res_2_d => [0xCB, 0x92]
  | .res_2_e => [0xCB, 0x93]
  | .res_2_h => [0xCB, 0x94]
  | .res_2_l => [0xCB, 0x95]
  | .res_2_mhl => [0xCB, 0x96]
  | .res_2_a => [0xCB, 0x97]
  | .res_3_b => [0xCB, 0x98]
  | .res_3_c => [0xCB, 0x99]
  | .res_3_d => [0xCB, 0x9A]
  | .res_3_e => [0xCB, 0x9B]
  | .res_3_h => [0xCB, 0x9C]
  | .res_3_l => [0xCB, 0x9D]
  | .res_3_mhl => [0xCB, 0x9E]
  | .res_3_a => [0xCB, 0x9F]
  | .res_4_b => [0xCB, 0xA0]
  | .res_4_c => [0xCB, 0xA1]
  | .res_4_d => [0xCB, 0xA2]
  | .res_4_e => [0xCB, 0xA3]
  | .res_4_h => [0xCB, 0xA4]
  | .res_4_l => [0xCB, 0xA5]
  | .res_4_mhl => [0xCB, 0xA6]
  | .res_4_a => [0xCB, 0xA7]
  | .res_5_b => [0xCB, 0xA8]
  | .res_5_c => [0xCB, 0xA9]
  | .res_5_d => [0xCB, 0xAA]
  | .res_5_e => [0xCB, 0xAB]
  | .res_5_h => [0xCB, 0xAC]
  | .res_5_l => [0xCB, 0xAD]
  | .res_5_mhl => [0xCB, 0xAE]
  | .res_5_a => [0xCB, 0xAF]
  | .res_6_b => [0xCB, 0xB0]
  | .res_6_c => [0xCB, 0xB1]
  | .res_6_d => [0xCB, 0xB2]
  | .res_6_e => [0xCB, 0xB3]
  | .res_6_h => [0xCB, 0xB4]
  | .res_6_l => [0xCB, 0xB5]
  | .res_6_mhl => [0xCB, 0xB6]
  | .res_6_a => [0xCB, 0xB7]
  | .res_7_b => [0xCB, 0xB8]
  | .res_7_c => [0xCB, 0xB9]
  | .res_7_d => [0xCB, 0xBA]
  | .res_7_e => [0xCB, 0xBB]
  | .res_7_h => [0xCB, 0xBC]
  | .res_7_l => [0xCB, 0xBD]
  | .res_7_mhl => [0xCB, 0xBE]
  | .res_7_a => [0xCB, 0xBF]
  | .set_0_b => [0xCB, 0xC0]
  | .set_0_c => [0xCB, 0xC1]
  | .set_0_d => [0xCB, 0xC2]
  | .set_0_e => [0xCB, 0xC3]
  | .set_0_h => [0xCB, 0xC4]
  | .set_0_l => [0xCB, 0xC5]
  | .set_0_mhl => [0xCB, 0xC6]
  | .set_0_a => [0xCB, 0xC7]
  | .set_1_b => [0xCB, 0xC8]
  | .set_1_c => [0xCB, 0xC9]
  | .set_1_d => [0xCB, 0xCA]
  | .set_1_e => [0xCB, 0xCB]
  | .set_1_h => [0xCB, 0xCC]
  | .set_1_l => [0xCB, 0xCD]
  | .set_1_mhl => [0xCB, 0xCE]
  | .set_1_a => [0xCB, 0xCF]
  | .set_2_b => [0xCB, 0xD0]
  | .set_2_c => [0xCB, 0xD1]
  | .set_2_d => [0xCB, 0xD2]
  | .set_2_e => [0xCB, 0xD3]
  | .set_2_h => [0xCB, 0xD4]
  | .set_2_l => [0xCB, 0xD5]
  | .set_2_mhl => [0xCB, 0xD6]
  | .set_2_a => [0xCB, 0xD7]
  | .set_3_b => [0xCB, 0xD8]
  | .set_3_c => [0xCB, 0xD9]
  | .set_3_d => [0xCB, 0xDA]
  | .set_3_e => [0xCB, 0xDB]
  | .set_3_h => [0xCB, 0xDC]
  | .set_3_l => [0xCB, 0xDD]
  | .set_3_mhl => [0xCB, 0xDE]
  | .set_3_a => [0xCB, 0xDF]
  | .set_4_b => [0xCB, 0xE0]
  | .set_4_c => [0xCB, 0xE1]
  | .set_4_d => [0xCB, 0xE2]
  | .set_4_e => [0xCB, 0xE3]
  | .set_4_h => [0xCB, 0xE4]
  | .set_4_l => [0xCB, 0xE5]
  | .set_4_mhl => [0xCB, 0xE6]
  | .set_4_a => [0xCB, 0xE7]
  | .set_5_b => [0xCB, 0xE8]
  | .set_5_c => [0xCB, 0xE9]
  | .set_5_d => [0xCB, 0xEA]
  | .set_5_e => [0xCB, 0xEB]
  | .set_5_h => [0xCB, 0xEC]
  | .set_5_l => [0xCB, 0xED]
  | .set_5_mhl => [0xCB, 0xEE]
  | .set_5_a => [0xCB, 0xEF]
  | .set_6_b => [0xCB, 0xF0]
  | .set_6_c => [0xCB, 0xF1]
  | .set_6_d => [0xCB, 0xF2]
  | .set_6_e => [0xCB, 0xF3]
  | .set_6_h => [0xCB, 0xF4]
  | .set_6_l => [0xCB, 0xF5]
  | .set_6_mhl => [0xCB, 0xF6]
  | .set_6_a => [0xCB, 0xF7]
  | .set_7_b => [0xCB, 0xF8]
  | .set_7_c => [0xCB, 0xF9]
  | .set_7_d => [0xCB, 0xFA]
  | .set_7_e => [0xCB, 0xFB]
  | .set_7_h => [0xCB, 0xFC]
  | .set_7_l => [0xCB, 0xFD]
  | .set_7_mhl => [0xCB, 0xFE]
  | .set_7_a => [0xCB, 0xFF]

/-- The bytes of an instruction numbered as spec/opcode_table.json numbers its rows.  A row of the CB table is numbered
`0xCB00 | op2` (R108), the prefix in bits 15 to 8; every other row has its first byte in bits 7 to 0 (assumption 1). -/
def tableBytes (nbits w : Nat) : List Byte :=
  let v := w % 2 ^ nbits
  if nbits = 16 ∧ v / 256 = 0xCB then [0xCB, BitVec.ofNat 8 v, 0]
  else [BitVec.ofNat 8 v, BitVec.ofNat 8 (v / 256), BitVec.ofNat 8 (v / 65536)]

/-- The instruction the decoder reads from an instruction whose bits are `w`. -/
def decodeTableWord (nbits w : Nat) : Option Instr :=
  match decode (tableBytes nbits w) with
  | .ok i _ => some i
  | .rejected _ => none

end Sys2Proof
end

