-- ==== Sys2Proof/Config.lean ====
section
/-! DEFINITION. What is fixed for one machine (00_scope.md R6: the named parameters), as plain data, and the free values:
constants without a body that answer for the collaborators outside the block and for what the spec leaves open. -/

namespace Sys2Proof

/-- A byte memory: (address, byte) pairs, addresses strictly rising, no pair holding what an unlisted address reads as
(`Memory.unlisted`).  The key is the offset inside the memory (20_memory.md R42: `vram[a - 0x8000]` and so on). -/
abbrev Memory := List Host.Cell

/-- The cartridge mapper types the spec defines (20_memory.md R71, R72).  Any other type is refused at load time (R76). -/
inductive MapperType where
  | none
  | mbc1
  deriving DecidableEq, Repr

/-- The parameter HALT_IME0_PENDING (46_system.md R241 case 3; 92_eei_decisions.md D12). -/
inductive HaltPolicy where
  | refuse
  | fallthrough
  | bug
  deriving DecidableEq, Repr

/-- The cartridge (00_scope.md R6): `rom` has 16384 x `romBanks` bytes, `ramInit` 8192 x `ramBanks`. -/
structure Cartridge where
  rom      : Memory
  romBanks : Nat
  mapper   : MapperType
  ramBanks : Nat
  ramInit  : Memory
  deriving DecidableEq, Repr

/-- The configuration of one machine (00_scope.md R6).  The machine carries it in its state and no step changes it
(assumption 9).  `boot = none` is "no boot image supplied". -/
structure Config where
  cart            : Cartridge
  boot            : Option Memory
  haltPolicy      : HaltPolicy
  inputPollPeriod : Nat
  deriving DecidableEq, Repr

/-- The eight buttons of the Controller collaborator (60_exceptions.md R300, R301). -/
inductive Button where
  | right | left | up | down | a | b | select | start
  deriving DecidableEq, Repr

/-- FREE VALUE.  What the read number `n` returns when it is at address `a` and the spec fixes no value: 0xFEA0 to 0xFEFF
(20_memory.md R55) and the sound registers, `AudioRead` (R60).  Assumption 2. -/
opaque Config.freeRead (n : Nat) (a : Word) : Byte

/-- FREE VALUE.  `MODE3_LEN` minus 172: the n-th draw, made for line `ly` (60_exceptions.md R289).  Assumption 11. -/
opaque Config.mode3Extra (n : Nat) (ly : Nat) : Fin 118

/-- FREE VALUE.  The oracle `Pressed(button, t)` (60_exceptions.md R301; 46_system.md R242 for `Wake`).  Assumption 12. -/
opaque Config.pressed (btn : Button) (t : Nat) : Bool

/-- FREE VALUE.  The oracle `SerialIn`: at the n-th opportunity, whether the collaborator completes the running transfer and
with which byte (60_exceptions.md R303).  Assumption 13. -/
opaque Config.serialIn (n : Nat) : Option Byte

/-- `MODE3_LEN(ly, state)`: any natural in [172, 289] (60_exceptions.md R289). -/
def Config.mode3Len (n ly : Nat) : Nat := 172 + (Config.mode3Extra n ly).val

/-- DESIGN CHOICE (assumption 7).  The configuration `State.reset` carries: no boot image, a 32 KiB cartridge without mapper
and without RAM whose bytes are all unlisted, the hardware's HALT behaviour, one input poll a frame. -/
def Config.default : Config where
  cart := { rom := [], romBanks := 2, mapper := .none, ramBanks := 0, ramInit := [] }
  boot := none
  haltPolicy := .bug
  inputPollPeriod := 70224

end Sys2Proof
end

