-- ==== Sys2Proof/Machine/State.lean ====
section
/-! DEFINITION. The state of GB-CORE as plain data (10_state.md R10 to R30), the reasons a step can stop, and reset
(10_state.md R31, R32). -/

namespace Sys2Proof.Machine

/-- The CPU's execution mode (10_state.md R21). -/
inductive CpuMode where
  | running | halted | stopped | faulted
  deriving DecidableEq, Repr

/-- The line machine's mode (10_state.md R25); the numbers 0, 1, 2, 3 are those STAT[1:0] shows. -/
inductive PpuMode where
  | hblank | vblank | oamScan | transfer
  deriving DecidableEq, Repr

/-- The timer's registers and hidden state (10_state.md R24). -/
structure Timer where
  sysclk        : BitVec 16
  tima          : Byte
  tma           : Byte
  tac           : BitVec 3
  sub           : Nat        -- `tima_sub`
  reloadPending : Bool       -- `tima_reload_pending`
  deriving DecidableEq, Repr

/-- The PPU's registers and hidden state (10_state.md R25).  `ly`, `dot` and `m3len` are counts. -/
structure Ppu where
  lcdc   : Byte
  statEn : BitVec 4          -- STAT bits 6:3
  scy    : Byte
  scx    : Byte
  ly     : Nat
  lyc    : Byte
  bgp    : Byte
  obp0   : Byte
  obp1   : Byte
  wy     : Byte
  wx     : Byte
  mode   : PpuMode
  dot    : Nat
  m3len  : Nat
  deriving DecidableEq, Repr

/-- The registers of mapper `MBC1` (10_state.md R26; 20_memory.md R72).  Mapper `NONE` has none: it leaves them alone. -/
structure MapperRegs where
  ramEnable : Bool
  bank1     : BitVec 5
  bank2     : BitVec 2
  bankMode  : Bool
  deriving DecidableEq, Repr

/-- The state of the eight buttons at one poll (`buttons_prev`, 10_state.md R28). -/
structure Buttons where
  right : Bool
  left : Bool
  up : Bool
  down : Bool
  a : Bool
  b : Bool
  select : Bool
  start : Bool
  deriving DecidableEq, Repr

/-- The joypad interface (10_state.md R28): `sel` is P1 bits 5:4. -/
structure Joypad where
  sel         : BitVec 2
  inputTimer  : Nat
  buttonsPrev : Buttons
  deriving DecidableEq, Repr

/-- The serial interface (10_state.md R28): SC bit 7 is `sc7`, SC bit 0 is `sc0`. -/
structure Serial where
  sb  : Byte
  sc7 : Bool
  sc0 : Bool
  deriving DecidableEq, Repr

/-- The closed set of error kinds (60_exceptions.md R253), with what R250 records for the run-time one. -/
inductive ErrorKind where
  | unmappedOpcode (op : Byte) (addr : Word)
  | unsupportedMapper
  | malformedImage
  deriving DecidableEq, Repr

/-- What the block tells its collaborators and the session driver: `SerialOut` (60_exceptions.md R302), `Screen.draw` (R285),
a write handed to Audio (20_memory.md R60), a reported error (60_exceptions.md R250). -/
inductive Event where
  | serialOut (b : Byte)
  | screenDraw
  | audioWrite (a : Word) (v : Byte)
  | error (k : ErrorKind)
  deriving DecidableEq, Repr

/-- The MODEL's own counters: how many values of each kind have been drawn so far (assumptions 2, 3, 11, 12, 13).  They only
number the free values; no rule of the spec reads them. -/
structure Free where
  reads  : Nat
  lines  : Nat
  polls  : Nat
  serial : Nat
  deriving DecidableEq, Repr

/-- Why the machine stops. -/
inductive Fault where
  /-- Raised by `step` alone, in mode `Faulted`: no step is defined from it (60_exceptions.md R250).  Safe. -/
  | faulted
  deriving DecidableEq, Repr

/-- Why a step has no meaning. -/
inductive Refusal where
  /-- Raised by an arm of `exec` whose instruction has no meaning yet.  Safe. -/
  | notModelled (mnemonic : String)
  /-- Raised by HALT alone, in case 3 of 46_system.md R241 and only when the configuration's HALT_IME0_PENDING is `refuse`.
  Safe. -/
  | haltIme0Pending
  deriving DecidableEq, Repr

/-- The whole state.  Each field's rule and reset value stand in INVENTORY.md. -/
structure State where
  cfg        : Config
  a          : Byte
  b          : Byte
  c          : Byte
  d          : Byte
  e          : Byte
  h          : Byte
  l          : Byte
  fZ         : Bool
  fN         : Bool
  fH         : Bool
  fC         : Bool
  sp         : Word
  pc         : Word
  ime        : Bool
  eiPending  : Bool
  mode       : CpuMode
  haltBug    : Bool
  ie         : Byte
  iflag      : BitVec 5
  timer      : Timer
  ppu        : Ppu
  dmaReg     : Byte
  bootActive : Bool
  mapper     : MapperRegs
  vram       : Memory
  wram       : Memory
  oam        : Memory
  hram       : Memory
  cartRam    : Memory
  joypad     : Joypad
  serial     : Serial
  cycles     : Nat           -- what the last CPU step reported (assumption 17)
  free       : Free          -- the model's own (assumption 3)
  events     : List Event    -- the output trace, newest first (assumption 18)
  deriving DecidableEq, Repr

/-- No button held. -/
def Buttons.released : Buttons := ⟨false, false, false, false, false, false, false, false⟩

/-- `MBC1` registers at reset (20_memory.md R72). -/
def MapperRegs.reset : MapperRegs := { ramEnable := false, bank1 := 1, bank2 := 0, bankMode := false }

/-- Reset without a boot image: the post-boot state of 10_state.md R31.  OBP0 and OBP1 are unspecified there (assumption 5),
and so is every byte of the memories (assumption 4). -/
def State.postBoot (cfg : Config) : State where
  cfg := cfg
  a := 0x01
  b := 0x00
  c := 0x13
  d := 0x00
  e := 0xD8
  h := 0x01
  l := 0x4D
  fZ := true
  fN := false
  fH := true
  fC := true
  sp := 0xFFFE
  pc := 0x0100
  ime := false
  eiPending := false
  mode := .running
  haltBug := false
  ie := 0x00
  iflag := 0x01
  timer := { sysclk := 0xABCC, tima := 0, tma := 0, tac := 0, sub := 0, reloadPending := false }
  ppu := { lcdc := 0x91, statEn := 0, scy := 0, scx := 0, ly := 0, lyc := 0, bgp := 0xFC, obp0 := 0, obp1 := 0, wy := 0,
           wx := 0, mode := .oamScan, dot := 0, m3len := Config.mode3Len 0 0 }
  dmaReg := 0xFF
  bootActive := false
  mapper := .reset
  vram := []
  wram := []
  oam := []
  hram := []
  cartRam := cfg.cart.ramInit
  joypad := { sel := 0, inputTimer := 0, buttonsPrev := .released }
  serial := { sb := 0, sc7 := false, sc0 := false }
  cycles := 0
  free := { reads := 0, lines := 1, polls := 0, serial := 0 }
  events := []

/-- Reset with a boot image: the power-on state of 10_state.md R32.  The CPU registers, the flags, SP, BGP, OBP0, OBP1 and
`dma_reg` are unspecified there: DESIGN CHOICE 0 (assumption 6); `m3len` is drawn when the PPU is enabled, and holds 172
until then (assumption 6). -/
def State.powerOn (cfg : Config) : State where
  cfg := cfg
  a := 0
  b := 0
  c := 0
  d := 0
  e := 0
  h := 0
  l := 0
  fZ := false
  fN := false
  fH := false
  fC := false
  sp := 0
  pc := 0x0000
  ime := false
  eiPending := false
  mode := .running
  haltBug := false
  ie := 0x00
  iflag := 0x00
  timer := { sysclk := 0, tima := 0, tma := 0, tac := 0, sub := 0, reloadPending := false }
  ppu := { lcdc := 0x00, statEn := 0, scy := 0, scx := 0, ly := 0, lyc := 0, bgp := 0, obp0 := 0, obp1 := 0, wy := 0,
           wx := 0, mode := .hblank, dot := 0, m3len := 172 }
  dmaReg := 0
  bootActive := true
  mapper := .reset
  vram := []
  wram := []
  oam := []
  hram := []
  cartRam := cfg.cart.ramInit
  joypad := { sel := 0, inputTimer := 0, buttonsPrev := .released }
  serial := { sb := 0, sc7 := false, sc0 := false }
  cycles := 0
  free := { reads := 0, lines := 0, polls := 0, serial := 0 }
  events := []

/-- Reset is the start of a session, in the variant the configuration chooses (70_reset_and_hazards.md R320 to R322). -/
def State.resetWith (cfg : Config) : State :=
  match cfg.boot with
  | none => State.postBoot cfg
  | some _ => State.powerOn cfg

/-- The machine right after reset, with the default configuration (assumption 7): the spec's reset without a boot image. -/
def State.reset : State := State.resetWith Config.default

end Sys2Proof.Machine
end

