-- ==== Sys2Proof/Machine/Memory.lean ====
section
/-! DEFINITION. The byte memories: what an unlisted address reads as, reading, writing, the canonical form. -/

namespace Sys2Proof

/-- DESIGN CHOICE (assumption 4).  What a byte that nothing has written reads as.  The spec gives the memories no reset
contents (10_state.md R31, R32). -/
def Memory.unlisted : Byte := 0x00

/-- The byte at key `k`. -/
def Memory.get (m : Memory) (k : Nat) : Byte :=
  match m with
  | [] => Memory.unlisted
  | (j, v) :: rest => if j = k then v else Memory.get rest k

/-- The pair a canonical memory holds for key `k` and byte `v`: none when `v` is what an unlisted address reads as. -/
def Memory.cell (k : Nat) (v : Byte) (rest : Memory) : Memory :=
  if v = Memory.unlisted then rest else (k, v) :: rest

/-- Store `v` at key `k`, keeping the canonical form. -/
def Memory.set (m : Memory) (k : Nat) (v : Byte) : Memory :=
  match m with
  | [] => Memory.cell k v []
  | (j, w) :: rest =>
    if k < j then Memory.cell k v ((j, w) :: rest)
    else if k = j then Memory.cell k v rest
    else (j, w) :: Memory.set rest k v

/-- Every key is above `lo` and below `n`, the keys rise strictly, and no cell holds the unlisted byte. -/
def Memory.wfFrom (n : Nat) (lo : Option Nat) (m : Memory) : Bool :=
  match m with
  | [] => true
  | (k, v) :: rest =>
    decide (k < n) && decide (v ≠ Memory.unlisted) &&
      (match lo with
       | none => true
       | some j => decide (j < k)) &&
      Memory.wfFrom n (some k) rest

/-- The canonical form of a memory of `n` bytes. -/
def Memory.wf (n : Nat) (m : Memory) : Bool := Memory.wfFrom n none m

/-- The memory that holds the bytes of a list, the first at key `k` (load-time images, 00_scope.md R6). -/
def Memory.ofBytes (k : Nat) (bs : List Byte) : Memory :=
  match bs with
  | [] => []
  | b :: rest => Memory.cell k b (Memory.ofBytes (k + 1) rest)

end Sys2Proof

namespace Sys2Proof.Machine

/-- `x[hi:lo]` as a field of `n` bits from bit `lo` up (00_scope.md R7). -/
def field (lo n : Nat) (v : Byte) : BitVec n := v.extractLsb' lo n

/-- `f` applied `n` times (60_exceptions.md R270, R280: "perform ... `cycles` times"). -/
def repeatTick (f : State → State) (n : Nat) (s : State) : State :=
  match n with
  | 0 => s
  | k + 1 => repeatTick f k (f s)

/-- Set IF bit `k`: how a peripheral raises an interrupt (60_exceptions.md R263). -/
def raiseIf (k : Nat) (s : State) : State :=
  { s with iflag := s.iflag ||| BitVec.twoPow 5 k }

/-- One more value has been read through the bus; the number only tells free values apart (assumption 2). -/
def State.countRead (s : State) : State :=
  { s with free := { s.free with reads := s.free.reads + 1 } }

/-- Emit an event to a collaborator or the session driver (assumption 18). -/
def State.emit (ev : Event) (s : State) : State :=
  { s with events := ev :: s.events }

end Sys2Proof.Machine
end

