-- ==== Sys2Proof/Machine/Joypad.lean ====
section
/-! DEFINITION. The joypad interface: P1, the input poll and its interrupt (60_exceptions.md R300, R301), and the wake-up from
`Stopped` by a button (46_system.md R242). -/

namespace Sys2Proof.Machine

/-- The eight answers of the Controller collaborator at poll `t` (60_exceptions.md R301). -/
def pollButtons (t : Nat) : Buttons where
  right := Config.pressed .right t
  left := Config.pressed .left t
  up := Config.pressed .up t
  down := Config.pressed .down t
  a := Config.pressed .a t
  b := Config.pressed .b t
  select := Config.pressed .select t
  start := Config.pressed .start t

/-- Some button goes from released in `old` to pressed in `now` (60_exceptions.md R301). -/
def pressEdge (old now : Buttons) : Bool :=
  (now.right && !old.right) || (now.left && !old.left) || (now.up && !old.up) || (now.down && !old.down) ||
    (now.a && !old.a) || (now.b && !old.b) || (now.select && !old.select) || (now.start && !old.start)

/-- A bit of `in[3:0]`: 0 when the direction or the action button is held and its group selected (60_exceptions.md R300). -/
def p1Line (sel : BitVec 2) (direction action : Bool) : Bool :=
  !((!sel.getLsbD 0 && direction) || (!sel.getLsbD 1 && action))

/-- P1 as the CPU reads it: `0xC0 | (sel << 4) | in[3:0]` (60_exceptions.md R300). -/
def p1Read (j : Joypad) : Byte :=
  0b11#2 ++ j.sel ++ BitVec.ofBool (p1Line j.sel j.buttonsPrev.down j.buttonsPrev.start) ++
    BitVec.ofBool (p1Line j.sel j.buttonsPrev.up j.buttonsPrev.select) ++
    BitVec.ofBool (p1Line j.sel j.buttonsPrev.left j.buttonsPrev.b) ++
    BitVec.ofBool (p1Line j.sel j.buttonsPrev.right j.buttonsPrev.a)

/-- One input poll: the body of the loop of 60_exceptions.md R301. -/
def inputPoll (s : State) : State :=
  let now := pollButtons s.free.polls
  let s1 := if pressEdge s.joypad.buttonsPrev now then raiseIf 4 s else s
  { s1 with joypad := { s1.joypad with inputTimer := s1.joypad.inputTimer - s1.cfg.inputPollPeriod, buttonsPrev := now },
            free := { s1.free with polls := s1.free.polls + 1 } }

/-- The loop of 60_exceptions.md R301; a period above 0 lets it run at most `fuel` times when `fuel` is the timer's value. -/
def inputPolls (fuel : Nat) (s : State) : State :=
  match fuel with
  | 0 => s
  | k + 1 => if s.joypad.inputTimer ≥ s.cfg.inputPollPeriod then inputPolls k (inputPoll s) else s

/-- `Input.step(cycles)` (60_exceptions.md R301). -/
def inputStep (cycles : Nat) (s : State) : State :=
  inputPolls (s.joypad.inputTimer + cycles)
    { s with joypad := { s.joypad with inputTimer := s.joypad.inputTimer + cycles } }

/-- A pressed button of a selected group: P1 `sel` bit 0 = 0 selects the directions, bit 1 = 0 the actions
(46_system.md R242, 10_state.md R28). -/
def selectedPressed (sel : BitVec 2) (now : Buttons) : Bool :=
  (!sel.getLsbD 0 && (now.right || now.left || now.up || now.down)) ||
    (!sel.getLsbD 1 && (now.a || now.b || now.select || now.start))

/-- The host's opportunity to make the move `Wake` in mode `Stopped` (46_system.md R242; 60_exceptions.md R311): when the
Controller reports a pressed button of a selected group, `mode <- Running`; nothing else changes (assumption 14). -/
def wakeMove (s : State) : State :=
  let s1 := { s with free := { s.free with polls := s.free.polls + 1 } }
  if selectedPressed s.joypad.sel (pollButtons s.free.polls) then { s1 with mode := .running } else s1

end Sys2Proof.Machine
end

