-- ==== Sys2Proof/Machine/Ppu.lean ====
section
/-! DEFINITION. The PPU's line state machine (60_exceptions.md R280 to R290).  Pixels are outside the block's modelled state
(00_scope.md R4). -/

namespace Sys2Proof.Machine

/-- LCDC bit 7 (60_exceptions.md R281). -/
def lcdOn (p : Ppu) : Bool := p.lcdc.getLsbD 7

/-- The number STAT[1:0] shows (10_state.md R25). -/
def PpuMode.number (m : PpuMode) : BitVec 2 :=
  match m with
  | .hblank => 0
  | .vblank => 1
  | .oamScan => 2
  | .transfer => 3

/-- `Mode(ly, dot)` (60_exceptions.md R283). -/
def ppuModeAt (ly dot m3len : Nat) : PpuMode :=
  if ly ≥ 144 then .vblank
  else if dot < 80 then .oamScan
  else if dot < 80 + m3len then .transfer
  else .hblank

/-- Draw `m3len` for line `ly` (60_exceptions.md R289). -/
def drawMode3 (ly : Nat) (s : State) : State :=
  { s with ppu := { s.ppu with m3len := Config.mode3Len s.free.lines ly },
           free := { s.free with lines := s.free.lines + 1 } }

/-- `LineCompare()` (60_exceptions.md R286). -/
def lineCompare (s : State) : State :=
  if s.ppu.ly = s.ppu.lyc.toNat ∧ s.ppu.statEn.getLsbD 3 then raiseIf 1 s else s

/-- The line after the current one begins (60_exceptions.md R282). -/
def nextLine (s : State) : State :=
  let ly := (s.ppu.ly + 1) % 154
  let s1 := { s with ppu := { s.ppu with dot := 0, ly := ly } }
  lineCompare (if ly ≤ 143 then drawMode3 ly s1 else s1)

/-- Tick part 1, position (60_exceptions.md R282). -/
def tickPosition (s : State) : State :=
  if s.ppu.dot + 1 = 456 then nextLine s
  else { s with ppu := { s.ppu with dot := s.ppu.dot + 1 } }

/-- `VBlankEntry()` (60_exceptions.md R285); STAT bit 4 is `statEn` bit 1. -/
def vblankEntry (s : State) : State :=
  let s1 := raiseIf 0 s
  let s2 := if s.ppu.statEn.getLsbD 1 then raiseIf 1 s1 else s1
  s2.emit .screenDraw

/-- What entering a mode raises (60_exceptions.md R284, R285); STAT bit 5 is `statEn` bit 2 and STAT bit 3 is `statEn` bit 0. -/
def modeEntry (m : PpuMode) (s : State) : State :=
  match m with
  | .oamScan => if s.ppu.statEn.getLsbD 2 then raiseIf 1 s else s
  | .hblank => if s.ppu.statEn.getLsbD 0 then raiseIf 1 s else s
  | .vblank => vblankEntry s
  | .transfer => s

/-- Tick part 2, mode transition (60_exceptions.md R284). -/
def tickMode (s : State) : State :=
  let m := ppuModeAt s.ppu.ly s.ppu.dot s.ppu.m3len
  if m = s.ppu.mode then s
  else modeEntry m { s with ppu := { s.ppu with mode := m } }

/-- `PpuTick()` (60_exceptions.md R280, R281). -/
def ppuTick (s : State) : State :=
  if lcdOn s.ppu then tickMode (tickPosition s) else s

/-- `PPU.step(cycles)` (60_exceptions.md R280). -/
def ppuStep (cycles : Nat) (s : State) : State := repeatTick ppuTick cycles s

/-- STAT as the CPU reads it: `0x80 | (stat_en << 3) | ((ly == LYC) << 2) | ppu_mode` (60_exceptions.md R287). -/
def statRead (p : Ppu) : Byte :=
  1#1 ++ p.statEn ++ BitVec.ofBool (p.ly == p.lyc.toNat) ++ p.mode.number

/-- A CPU write to LCDC, with the edges of bit 7 (60_exceptions.md R281). -/
def lcdcWrite (v : Byte) (s : State) : State :=
  let s1 := { s with ppu := { s.ppu with lcdc := v } }
  match lcdOn s.ppu, v.getLsbD 7 with
  | true, false => { s1 with ppu := { s1.ppu with ly := 0, dot := 0, mode := .hblank } }
  | false, true => drawMode3 0 { s1 with ppu := { s1.ppu with ly := 0, dot := 0, mode := .oamScan } }
  | _, _ => s1

end Sys2Proof.Machine
end

