-- ==== Sys2Proof/Machine/Serial.lean ====
section
/-! DEFINITION. The serial interface (60_exceptions.md R302, R303). -/

namespace Sys2Proof.Machine

/-- SC as the CPU reads it: `0x7E | (sc7 << 7) | sc0` (20_memory.md R56). -/
def scRead (p : Serial) : Byte := BitVec.ofBool p.sc7 ++ 0b111111#6 ++ BitVec.ofBool p.sc0

/-- A CPU write to SC; with `v[7] = 1` it emits `SerialOut(SB)` (60_exceptions.md R302). -/
def scWrite (v : Byte) (s : State) : State :=
  let s1 := { s with serial := { s.serial with sc7 := v.getLsbD 7, sc0 := v.getLsbD 0 } }
  if v.getLsbD 7 then s1.emit (.serialOut s.serial.sb) else s1

/-- The host move `SerialComplete(b)` (60_exceptions.md R303). -/
def serialComplete (b : Byte) (s : State) : State :=
  raiseIf 3 { s with serial := { s.serial with sb := b, sc7 := false } }

/-- The host's opportunity to make the move between two steps: legal only while `sc7 = 1`; the oracle `SerialIn` decides whether
it is made and with which byte (60_exceptions.md R303; assumption 13). -/
def serialMove (s : State) : State :=
  if s.serial.sc7 then
    let s1 := { s with free := { s.free with serial := s.free.serial + 1 } }
    match Config.serialIn s.free.serial with
    | none => s1
    | some b => serialComplete b s1
  else s

end Sys2Proof.Machine
end

