-- ==== Sys2Proof/Machine/Timer.lean ====
section
/-! DEFINITION. The timer (60_exceptions.md R270 to R278). -/

namespace Sys2Proof.Machine

/-- Clock cycles per TIMA increment by TAC[1:0] (60_exceptions.md R274). -/
def timaDivisor (tac : BitVec 3) : Nat :=
  match tac.getLsbD 1, tac.getLsbD 0 with
  | false, false => 1024
  | false, true => 16
  | true, false => 64
  | true, true => 256

/-- Tick part 1, the divider (60_exceptions.md R271). -/
def tickDivider (s : State) : State :=
  { s with timer := { s.timer with sysclk := s.timer.sysclk + 1 } }

/-- Tick part 2, the delayed reload (60_exceptions.md R272). -/
def tickReload (s : State) : State :=
  if s.timer.reloadPending then
    raiseIf 2 { s with timer := { s.timer with tima := s.timer.tma, reloadPending := false } }
  else s

/-- TIMA's own increment, with the overflow (60_exceptions.md R273). -/
def bumpTima (t : Timer) : Timer :=
  if t.tima = 0xFF then { t with tima := 0x00, reloadPending := true }
  else { t with tima := t.tima + 1 }

/-- Tick part 3, the programmable counter (60_exceptions.md R273). -/
def tickCounter (s : State) : State :=
  if s.timer.tac.getLsbD 2 then
    if s.timer.sub + 1 ≥ timaDivisor s.timer.tac then
      { s with timer := bumpTima { s.timer with sub := 0 } }
    else { s with timer := { s.timer with sub := s.timer.sub + 1 } }
  else s

/-- `TimerTick()` (60_exceptions.md R270). -/
def timerTick (s : State) : State := tickCounter (tickReload (tickDivider s))

/-- `Timer.step(cycles)` (60_exceptions.md R270). -/
def timerStep (cycles : Nat) (s : State) : State := repeatTick timerTick cycles s

/-- The DIV register (60_exceptions.md R275). -/
def divRead (t : Timer) : Byte := t.sysclk.extractLsb' 8 8

end Sys2Proof.Machine
end

