-- ==== Sys2Proof/Machine/Bus.lean ====
section
/-! DEFINITION. The memory bus: the address decoder, the cartridge mapper, the I/O registers, the byte read and the byte write
(20_memory.md R40 to R77). -/

namespace Sys2Proof.Machine

/-- The registers of the I/O region (20_memory.md R56). -/
inductive IoReg where
  | p1 | sb | sc | div | tima | tma | tac | iflag | sound | lcdc | stat | scy | scx | ly | lyc | dma | bgp | obp0 | obp1
  | wy | wx | bootOff | unmapped
  deriving DecidableEq, Repr

/-- The regions of the address map (20_memory.md R41), each with the offset inside it; the echo is work RAM (R53). -/
inductive Region where
  | romLow (off : Nat)
  | romHigh (off : Nat)
  | vram (off : Nat)
  | cartRam (off : Nat)
  | wram (off : Nat)
  | oam (off : Nat)
  | unusable
  | io (r : IoReg)
  | hram (off : Nat)
  | ie
  deriving DecidableEq, Repr

/-- The register at an address of 0xFF00 to 0xFF7F (20_memory.md R56). -/
def ioReg (n : Nat) : IoReg :=
  if n = 0xFF00 then .p1
  else if n = 0xFF01 then .sb
  else if n = 0xFF02 then .sc
  else if n = 0xFF04 then .div
  else if n = 0xFF05 then .tima
  else if n = 0xFF06 then .tma
  else if n = 0xFF07 then .tac
  else if n = 0xFF0F then .iflag
  else if 0xFF10 ≤ n ∧ n ≤ 0xFF3F then .sound
  else if n = 0xFF40 then .lcdc
  else if n = 0xFF41 then .stat
  else if n = 0xFF42 then .scy
  else if n = 0xFF43 then .scx
  else if n = 0xFF44 then .ly
  else if n = 0xFF45 then .lyc
  else if n = 0xFF46 then .dma
  else if n = 0xFF47 then .bgp
  else if n = 0xFF48 then .obp0
  else if n = 0xFF49 then .obp1
  else if n = 0xFF4A then .wy
  else if n = 0xFF4B then .wx
  else if n = 0xFF50 then .bootOff
  else .unmapped

/-- The address decoder (20_memory.md R41 to R43, R53). -/
def region (a : Word) : Region :=
  let n := a.toNat
  if n ≤ 0x3FFF then .romLow n
  else if n ≤ 0x7FFF then .romHigh (n - 0x4000)
  else if n ≤ 0x9FFF then .vram (n - 0x8000)
  else if n ≤ 0xBFFF then .cartRam (n - 0xA000)
  else if n ≤ 0xDFFF then .wram (n - 0xC000)
  else if n ≤ 0xFDFF then .wram (n - 0xE000)
  else if n ≤ 0xFE9F then .oam (n - 0xFE00)
  else if n ≤ 0xFEFF then .unusable
  else if n ≤ 0xFF7F then .io (ioReg n)
  else if n ≤ 0xFFFE then .hram (n - 0xFF80)
  else .ie

/-- `RomLowBank()` (20_memory.md R71, R74). -/
def romLowBank (s : State) : Nat :=
  match s.cfg.cart.mapper with
  | .none => 0
  | .mbc1 => if s.mapper.bankMode then (s.mapper.bank2.toNat * 32) % s.cfg.cart.romBanks else 0

/-- `RomHighBank()` (20_memory.md R71, R74). -/
def romHighBank (s : State) : Nat :=
  match s.cfg.cart.mapper with
  | .none => 1
  | .mbc1 => (s.mapper.bank2.toNat * 32 + s.mapper.bank1.toNat) % s.cfg.cart.romBanks

/-- `RamBank()` (20_memory.md R71, R75). -/
def ramBank (s : State) : Nat :=
  match s.cfg.cart.mapper with
  | .none => 0
  | .mbc1 => if s.mapper.bankMode then s.mapper.bank2.toNat % s.cfg.cart.ramBanks else 0

/-- `ena`: there is cartridge RAM and the mapper enables it (20_memory.md R52, R71, R75). -/
def cartRamEnabled (s : State) : Bool :=
  decide (s.cfg.cart.ramBanks > 0) &&
    (match s.cfg.cart.mapper with
     | .none => true
     | .mbc1 => s.mapper.ramEnable)

/-- The key in `cart_ram` of offset `off` of the window (20_memory.md R52). -/
def cartRamKey (s : State) (off : Nat) : Nat := ramBank s * 8192 + off

/-- The boot image where the overlay covers offset `off`: `boot_active` and below 0x0100 (20_memory.md R49).  An active overlay
without an image cannot come about; it reads as the cartridge (assumption 19). -/
def bootOverlay (s : State) (off : Nat) : Option Memory :=
  if s.bootActive ∧ off ≤ 0x00FF then s.cfg.boot else none

/-- A read of 0x0000 to 0x3FFF (20_memory.md R49). -/
def romLowRead (s : State) (off : Nat) : Byte :=
  match bootOverlay s off with
  | some boot => Memory.get boot off
  | none => Memory.get s.cfg.cart.rom (romLowBank s * 16384 + off)

/-- `RomHigh(a)` (20_memory.md R50). -/
def romHighRead (s : State) (off : Nat) : Byte :=
  Memory.get s.cfg.cart.rom (romHighBank s * 16384 + off)

/-- `CartRamRead(a)` (20_memory.md R52). -/
def cartRamRead (s : State) (off : Nat) : Byte :=
  if cartRamEnabled s then Memory.get s.cartRam (cartRamKey s off) else 0xFF

/-- `CartRamWrite(a, v)` (20_memory.md R52). -/
def cartRamWrite (off : Nat) (v : Byte) (s : State) : State :=
  if cartRamEnabled s then { s with cartRam := Memory.set s.cartRam (cartRamKey s off) v } else s

/-- `MapperWrite(a, v)` (20_memory.md R70, R71, R73); ROM bytes never change. -/
def mapperWrite (n : Nat) (v : Byte) (s : State) : State :=
  match s.cfg.cart.mapper with
  | .none => s
  | .mbc1 =>
    if n ≤ 0x1FFF then { s with mapper := { s.mapper with ramEnable := field 0 4 v == 0xA } }
    else if n ≤ 0x3FFF then
      { s with mapper := { s.mapper with bank1 := if field 0 5 v = 0 then 1 else field 0 5 v } }
    else if n ≤ 0x5FFF then { s with mapper := { s.mapper with bank2 := field 0 2 v } }
    else { s with mapper := { s.mapper with bankMode := v.getLsbD 0 } }

/-- `IoRead(a)` (20_memory.md R56, R60, R61): the byte the register shows, or none where the spec leaves a draw. -/
def ioRead (s : State) (r : IoReg) : Option Byte :=
  match r with
  | .p1 => some (p1Read s.joypad)
  | .sb => some s.serial.sb
  | .sc => some (scRead s.serial)
  | .div => some (divRead s.timer)
  | .tima => some s.timer.tima
  | .tma => some s.timer.tma
  | .tac => some (0b11111#5 ++ s.timer.tac)
  | .iflag => some (0b111#3 ++ s.iflag)
  | .sound => none
  | .lcdc => some s.ppu.lcdc
  | .stat => some (statRead s.ppu)
  | .scy => some s.ppu.scy
  | .scx => some s.ppu.scx
  | .ly => some (BitVec.ofNat 8 s.ppu.ly)
  | .lyc => some s.ppu.lyc
  | .dma => some s.dmaReg
  | .bgp => some s.ppu.bgp
  | .obp0 => some s.ppu.obp0
  | .obp1 => some s.ppu.obp1
  | .wy => some s.ppu.wy
  | .wx => some s.ppu.wx
  | .bootOff => some 0xFF
  | .unmapped => some 0xFF

/-- The byte the block holds at an address, as a read shows it; none where a read is a draw: 0xFEA0 to 0xFEFF (20_memory.md
R55) and the sound registers (R60). -/
def byteAt (s : State) (a : Word) : Option Byte :=
  match region a with
  | .romLow off => some (romLowRead s off)
  | .romHigh off => some (romHighRead s off)
  | .vram off => some (Memory.get s.vram off)
  | .cartRam off => some (cartRamRead s off)
  | .wram off => some (Memory.get s.wram off)
  | .oam off => some (Memory.get s.oam off)
  | .unusable => none
  | .io r => ioRead s r
  | .hram off => some (Memory.get s.hram off)
  | .ie => some s.ie

/-- `MemRead(addr, 1)` (20_memory.md R42).  It changes no state of the spec's; whoever calls it counts the read with
`State.countRead`, so that the next draw is another free value (assumption 2). -/
def readByte (s : State) (a : Word) : Byte :=
  (byteAt s a).getD (Config.freeRead s.free.reads a)

/-- One byte of the OAM copy (20_memory.md R58). -/
def dmaByte (page : Byte) (s : State) (i : Nat) : State :=
  { s.countRead with oam := Memory.set s.oam i (readByte s (word page 0 + BitVec.ofNat 16 i)) }

/-- `IoWrite(0xFF46, v)`: the OAM copy, inside the writing instruction (20_memory.md R58). -/
def dmaWrite (v : Byte) (s : State) : State :=
  (List.range 160).foldl (dmaByte v) { s with dmaReg := v }

/-- `IoWrite(a, v)` (20_memory.md R56 to R61).  DESIGN CHOICE (assumption 30): a write to SB alone is no message to the serial
collaborator; R56 says only that it is mirrored there. -/
def ioWrite (r : IoReg) (a : Word) (v : Byte) (s : State) : State :=
  match r with
  | .p1 => { s with joypad := { s.joypad with sel := field 4 2 v } }
  | .sb => { s with serial := { s.serial with sb := v } }
  | .sc => scWrite v s
  | .div => { s with timer := { s.timer with sysclk := 0 } }
  | .tima => { s with timer := { s.timer with tima := v } }
  | .tma => { s with timer := { s.timer with tma := v } }
  | .tac => { s with timer := { s.timer with tac := field 0 3 v } }
  | .iflag => { s with iflag := field 0 5 v }
  | .sound => s.emit (.audioWrite a v)
  | .lcdc => lcdcWrite v s
  | .stat => { s with ppu := { s.ppu with statEn := field 3 4 v } }
  | .scy => { s with ppu := { s.ppu with scy := v } }
  | .scx => { s with ppu := { s.ppu with scx := v } }
  | .ly => s
  | .lyc => { s with ppu := { s.ppu with lyc := v } }
  | .dma => dmaWrite v s
  | .bgp => { s with ppu := { s.ppu with bgp := v } }
  | .obp0 => { s with ppu := { s.ppu with obp0 := v } }
  | .obp1 => { s with ppu := { s.ppu with obp1 := v } }
  | .wy => { s with ppu := { s.ppu with wy := v } }
  | .wx => { s with ppu := { s.ppu with wx := v } }
  | .bootOff => if v = 0 then s else { s with bootActive := false }
  | .unmapped => s

/-- `MemWrite(addr, 1, v)` with all its side effects; it never faults (20_memory.md R43, R48). -/
def writeByte (a : Word) (v : Byte) (s : State) : State :=
  match region a with
  | .romLow off => mapperWrite off v s
  | .romHigh off => mapperWrite (0x4000 + off) v s
  | .vram off => { s with vram := Memory.set s.vram off v }
  | .cartRam off => cartRamWrite off v s
  | .wram off => { s with wram := Memory.set s.wram off v }
  | .oam off => { s with oam := Memory.set s.oam off v }
  | .unusable => s
  | .io r => ioWrite r a v s
  | .hram off => { s with hram := Memory.set s.hram off v }
  | .ie => { s with ie := v }

/-- `MemWrite(addr, 2, v)`: the low byte first (20_memory.md R45). -/
def writeWord (a : Word) (v : Word) (s : State) : State :=
  writeByte (a + 1) (hiByte v) (writeByte a (loByte v) s)

end Sys2Proof.Machine
end

