-- ==== Sys2Proof/Machine/Operands.lean ====
section
/-! DEFINITION. The operand forms: register cells, pairs, the `r8`, `rr`, `qq` and `cc` tables, sign extension, and the named
updates of the CPU's own state (10_state.md R10 to R18; 30_encoding.md R93 to R96). -/

namespace Sys2Proof.Machine

/-- `sext_16(e)` (00_scope.md R7). -/
def sext16 (e : Byte) : Word := e.signExtend 16

/-- The address `0xFF00 + n` of the high page (30_encoding.md R93). -/
def highPage (n : Byte) : Word := word 0xFF n

/-- Read a register cell (10_state.md R10). -/
def State.reg (s : State) (r : Reg8) : Byte :=
  match r with
  | .b => s.b
  | .c => s.c
  | .d => s.d
  | .e => s.e
  | .h => s.h
  | .l => s.l
  | .a => s.a

/-- Write a register cell (10_state.md R10). -/
def State.setReg (r : Reg8) (v : Byte) (s : State) : State :=
  match r with
  | .b => { s with b := v }
  | .c => { s with c := v }
  | .d => { s with d := v }
  | .e => { s with e := v }
  | .h => { s with h := v }
  | .l => { s with l := v }
  | .a => { s with a := v }

/-- BC, DE, HL: the first letter is the high byte (10_state.md R11). -/
def State.bc (s : State) : Word := word s.b s.c
def State.de (s : State) : Word := word s.d s.e
def State.hl (s : State) : Word := word s.h s.l

/-- The flag view `F = {fZ, fN, fH, fC, 0, 0, 0, 0}` (10_state.md R15). -/
def State.f (s : State) : Byte :=
  BitVec.ofBool s.fZ ++ BitVec.ofBool s.fN ++ BitVec.ofBool s.fH ++ BitVec.ofBool s.fC ++ 0#4

/-- AF (10_state.md R12). -/
def State.af (s : State) : Word := word s.a s.f

/-- Write all four flags (10_state.md R14). -/
def State.setFlags (z n h c : Bool) (s : State) : State :=
  { s with fZ := z, fN := n, fH := h, fC := c }

/-- Write HL (10_state.md R11). -/
def State.setHl (v : Word) (s : State) : State := { s with h := hiByte v, l := loByte v }

/-- `rr[p]` (30_encoding.md R95). -/
def State.pair (s : State) (p : Pair16) : Word :=
  match p with
  | .bc => s.bc
  | .de => s.de
  | .hl => s.hl
  | .sp => s.sp

/-- `rr[p] <- v` (10_state.md R11, R18). -/
def State.setPair (p : Pair16) (v : Word) (s : State) : State :=
  match p with
  | .bc => { s with b := hiByte v, c := loByte v }
  | .de => { s with d := hiByte v, e := loByte v }
  | .hl => s.setHl v
  | .sp => { s with sp := v }

/-- `qq[p]` (30_encoding.md R95). -/
def State.stackPair (s : State) (p : StackPair) : Word :=
  match p with
  | .bc => s.bc
  | .de => s.de
  | .hl => s.hl
  | .af => s.af

/-- `qq[p] <- v`; writing AF discards `v[3:0]` (10_state.md R11, R12). -/
def State.setStackPair (p : StackPair) (v : Word) (s : State) : State :=
  match p with
  | .bc => { s with b := hiByte v, c := loByte v }
  | .de => { s with d := hiByte v, e := loByte v }
  | .hl => s.setHl v
  | .af =>
    { s with a := hiByte v, fZ := v.getLsbD 7, fN := v.getLsbD 6, fH := v.getLsbD 5, fC := v.getLsbD 4 }

/-- `PC <- v`. -/
def State.setPc (v : Word) (s : State) : State := { s with pc := v }

/-- `cycles <- n` (00_scope.md R8; 60_exceptions.md R310). -/
def State.took (n : Nat) (s : State) : State := { s with cycles := n }

/-- The value of an operand of the table `r8` (30_encoding.md R94). -/
def operandValue (o : Operand8) (s : State) : Byte :=
  match o with
  | .reg r => s.reg r
  | .mhl => readByte s s.hl

/-- The state after reading an operand: one bus read for `(HL)`. -/
def operandRead (o : Operand8) (s : State) : State :=
  match o with
  | .reg _ => s
  | .mhl => s.countRead

/-- Write an operand of the table `r8` (30_encoding.md R94). -/
def operandWrite (o : Operand8) (v : Byte) (s : State) : State :=
  match o with
  | .reg r => s.setReg r v
  | .mhl => writeByte s.hl v s

/-- `cond(cc)` (45_control.md R220). -/
def condHolds (cc : Cond) (s : State) : Bool :=
  match cc with
  | .nz => !s.fZ
  | .z => s.fZ
  | .nc => !s.fC
  | .c => s.fC

/-- The target `y * 8` of `RST` (45_control.md R231). -/
def rstTarget (t : RstIndex) : Word :=
  match t with
  | .t00 => 0x0000
  | .t08 => 0x0008
  | .t10 => 0x0010
  | .t18 => 0x0018
  | .t20 => 0x0020
  | .t28 => 0x0028
  | .t30 => 0x0030
  | .t38 => 0x0038

end Sys2Proof.Machine
end

