-- ==== Sys2Proof/Machine/Flags.lean ====
section
/-! DEFINITION. Results and flags of every arithmetic, logic, rotate and shift operation (42_alu8.md, 43_alu16.md,
44_rotate_shift_bit.md), computed on unbounded naturals and truncated at the end (42_alu8.md R150). -/

namespace Sys2Proof.Machine

/-- An 8-bit result with the four flags. -/
structure AluOut where
  r : Byte
  z : Bool
  n : Bool
  h : Bool
  c : Bool
  deriving DecidableEq, Repr

/-- `ADD` and `ADC` (42_alu8.md R151, R152); `ci` is the carry that goes in. -/
def addOut (x y : Byte) (ci : Bool) : AluOut :=
  let r := BitVec.ofNat 8 (x.toNat + y.toNat + ci.toNat)
  { r := r
    z := r == 0
    n := false
    h := decide (x.toNat % 16 + y.toNat % 16 + ci.toNat > 0x0F)
    c := decide (x.toNat + y.toNat + ci.toNat > 0xFF) }

/-- `SUB`, `SBC` and `CP` (42_alu8.md R153, R154, R158); `ci` is the borrow that goes in. -/
def subOut (x y : Byte) (ci : Bool) : AluOut :=
  let r := BitVec.ofInt 8 ((x.toNat : Int) - y.toNat - ci.toNat)
  { r := r
    z := r == 0
    n := true
    h := decide (x.toNat % 16 < y.toNat % 16 + ci.toNat)
    c := decide (x.toNat < y.toNat + ci.toNat) }

/-- `AND`, `XOR` and `OR` (42_alu8.md R155, R156, R157): the result and the constant half-carry. -/
def logicOut (r : Byte) (h : Bool) : AluOut := { r := r, z := r == 0, n := false, h := h, c := false }

/-- The accumulator operations (42_alu8.md R151 to R158): `x` is A, `y` the operand, `c` the old carry. -/
def aluOut (op : AluOp) (x y : Byte) (c : Bool) : AluOut :=
  match op with
  | .add => addOut x y false
  | .adc => addOut x y c
  | .sub => subOut x y false
  | .sbc => subOut x y c
  | .and => logicOut (x &&& y) true
  | .xor => logicOut (x ^^^ y) false
  | .or => logicOut (x ||| y) false
  | .cp => subOut x y false

/-- What an accumulator operation leaves in A: its result, but for `CP`, which does not write A (42_alu8.md R150, R158). -/
def aluKeeps (op : AluOp) (x r : Byte) : Byte :=
  match op with
  | .cp => x
  | .add | .adc | .sub | .sbc | .and | .xor | .or => r

/-- `INC` of a byte; `c` is the carry, which it keeps (42_alu8.md R159, R160). -/
def incOut (v : Byte) (c : Bool) : AluOut :=
  { r := v + 1, z := v + 1 == 0, n := false, h := decide (v.toNat % 16 = 0xF), c := c }

/-- `DEC` of a byte; `c` is the carry, which it keeps (42_alu8.md R161, R162). -/
def decOut (v : Byte) (c : Bool) : AluOut :=
  { r := v - 1, z := v - 1 == 0, n := true, h := decide (v.toNat % 16 = 0x0), c := c }

/-- `DAA` (42_alu8.md R163): A and the flags fN, fH, fC go in. -/
def daaOut (x : Byte) (n h c : Bool) : AluOut :=
  if n then
    let r := BitVec.ofInt 8 ((x.toNat : Int) - (if c then 0x60 else 0) - (if h then 0x06 else 0))
    { r := r, z := r == 0, n := n, h := false, c := c }
  else
    let high := c || decide (x.toNat > 0x99)
    let low := h || decide (x.toNat % 16 > 0x9)
    let r := BitVec.ofNat 8 (x.toNat + (if high then 0x60 else 0) + (if low then 0x06 else 0))
    { r := r, z := r == 0, n := n, h := false, c := high }

/-- A rotated or shifted byte `r` and the bit `c` that left it (44_rotate_shift_bit.md, section 3). -/
def shiftOut (r : Byte) (c : Bool) : AluOut := { r := r, z := r == 0, n := false, h := false, c := c }

/-- The seven low bits moved up, `b` at the bottom: `((v << 1) | b) mod 256`. -/
def shiftLeftIn (v : Byte) (b : Bool) : Byte := field 0 7 v ++ BitVec.ofBool b

/-- The seven high bits moved down, `b` at the top: `(v >> 1) | (b << 7)`. -/
def shiftRightIn (v : Byte) (b : Bool) : Byte := BitVec.ofBool b ++ field 1 7 v

/-- The CB-table rotates and shifts (44_rotate_shift_bit.md R195 to R202); `c` is the old carry. -/
def rotOut (op : RotOp) (v : Byte) (c : Bool) : AluOut :=
  match op with
  | .rlc => shiftOut (shiftLeftIn v (v.getLsbD 7)) (v.getLsbD 7)
  | .rrc => shiftOut (shiftRightIn v (v.getLsbD 0)) (v.getLsbD 0)
  | .rl => shiftOut (shiftLeftIn v c) (v.getLsbD 7)
  | .rr => shiftOut (shiftRightIn v c) (v.getLsbD 0)
  | .sla => shiftOut (shiftLeftIn v false) (v.getLsbD 7)
  | .sra => shiftOut (shiftRightIn v (v.getLsbD 7)) (v.getLsbD 0)
  | .swap => shiftOut (field 0 4 v ++ field 4 4 v) false
  | .srl => shiftOut (shiftRightIn v false) (v.getLsbD 0)

/-- The accumulator rotates (44_rotate_shift_bit.md R190 to R193): as their namesakes, but fZ is cleared. -/
def accRotOut (op : AccRotOp) (v : Byte) (c : Bool) : AluOut :=
  match op with
  | .rlca => { rotOut .rlc v c with z := false }
  | .rrca => { rotOut .rrc v c with z := false }
  | .rla => { rotOut .rl v c with z := false }
  | .rra => { rotOut .rr v c with z := false }

/-- A 16-bit result with the carries of its flags. -/
structure WideOut where
  r : Word
  h : Bool
  c : Bool
  deriving DecidableEq, Repr

/-- `ADD HL,rr` (43_alu16.md R180): carries out of bits 11 and 15. -/
def addHlOut (x y : Word) : WideOut :=
  { r := x + y
    h := decide (x.toNat % 4096 + y.toNat % 4096 > 0x0FFF)
    c := decide (x.toNat + y.toNat > 0xFFFF) }

/-- `ADD SP,e` and `LD HL,SP+e` (43_alu16.md R183; 41_load16_stack.md R143): the carries are those of the unsigned addition of
SP's low byte and `e`. -/
def addSpOut (x : Word) (e : Byte) : WideOut :=
  { r := x + sext16 e
    h := decide (x.toNat % 16 + e.toNat % 16 > 0x0F)
    c := decide (x.toNat % 256 + e.toNat > 0xFF) }

/-- Write the four flags of a result. -/
def State.setAluFlags (o : AluOut) (s : State) : State := s.setFlags o.z o.n o.h o.c

end Sys2Proof.Machine
end

