-- ==== Sys2Proof/Machine/Ops.lean ====
section
/-! DEFINITION. The shared operations: fetching, the stack, taking the interrupt and the one exception, and the return
(00_scope.md R8; 60_exceptions.md R250, R260 to R262). -/

namespace Sys2Proof.Machine

/-- What one meaning answers. -/
abbrev Result := Host.Outcome State Fault Refusal

/-- `Push16(v)`: SP first, then the high byte at the higher address, then the low byte (00_scope.md R8, 10_state.md R18). -/
def push16 (v : Word) (s : State) : State :=
  let sp := s.sp - 2
  writeByte sp (loByte v) (writeByte (sp + 1) (hiByte v) { s with sp := sp })

/-- The value `Pop16()` returns: the low byte at SP, then the high byte at SP + 1 (00_scope.md R8, 10_state.md R18). -/
def popValue (s : State) : Word :=
  word (readByte s.countRead (s.sp + 1)) (readByte s s.sp)

/-- The state after `Pop16()`: two reads, SP + 2. -/
def popped (s : State) : State := { s.countRead.countRead with sp := s.sp + 2 }

/-- The state after `Fetch8()` of a byte that is not an opcode (00_scope.md R8). -/
def afterFetch (s : State) : State := { s.countRead with pc := s.pc + 1 }

/-- The state after the fetch of the opcode byte `op`: `halt_bug` makes it leave PC and is cleared (00_scope.md R8, 46_system.md
R241).  An unmapped byte leaves PC one past itself also then: its exception sets `PC <- (addr+1)`, with `addr` the address the
byte was fetched from (60_exceptions.md R250; assumption 16). -/
def afterOpcode (op : Byte) (s : State) : State :=
  if s.haltBug then
    { s.countRead with haltBug := false, pc := if unmappedOpcodes.contains op then s.pc + 1 else s.pc }
  else afterFetch s

/-- Fetch one whole instruction and decode it: the opcode, then as many bytes as its format has (30_encoding.md R92). -/
def fetch (s : State) : Instr × State :=
  let op := readByte s s.pc
  let s1 := afterOpcode op s
  match opcodeLength op with
  | 1 => (decodeOpcode op 0 0, s1)
  | 2 => (decodeOpcode op (readByte s1 s1.pc) 0, afterFetch s1)
  | _ =>
    let s2 := afterFetch s1
    (decodeOpcode op (readByte s1 s1.pc) (readByte s2 s2.pc), afterFetch s2)

/-- `pending <- IE & IF & 0x1F` (60_exceptions.md R260). -/
def pending (s : State) : BitVec 5 := s.ie.setWidth 5 &&& s.iflag

/-- The lowest-numbered set bit of a nonzero `pending` (60_exceptions.md R262, R264). -/
def lowestBit (p : BitVec 5) : Nat :=
  if p.getLsbD 0 then 0
  else if p.getLsbD 1 then 1
  else if p.getLsbD 2 then 2
  else if p.getLsbD 3 then 3
  else 4

/-- The vector address `0x0040 + 8 * k` (60_exceptions.md R262, R263). -/
def interruptVector (k : Nat) : Word := BitVec.ofNat 16 (0x40 + 8 * k)

/-- `Dispatch(pending)`: taking interrupt `k` (60_exceptions.md R262). -/
def dispatchInterrupt (k : Nat) (s : State) : State :=
  let s1 := { s with iflag := s.iflag &&& ~~~BitVec.twoPow 5 k, ime := false, eiPending := false }
  ((push16 s.pc s1).setPc (interruptVector k)).took 20

/-- `RETI`'s return: PC from the stack, IME at once (45_control.md R230; 60_exceptions.md R266). -/
def returnFromInterrupt (s : State) : State :=
  { (popped s).setPc (popValue s) with ime := true, eiPending := false }

/-- `raise UnmappedOpcode(op, addr)`: the one exception; the machine stays in `Faulted` and the error is reported and
no cycles are counted (60_exceptions.md R250; 46_system.md R246; assumption 15). -/
def raiseUnmapped (op : Byte) (addr : Word) (s : State) : State :=
  { s with mode := .faulted, cycles := 0, events := .error (.unmappedOpcode op addr) :: s.events }

/-- What the CPU does in a step, decided before any fetch (60_exceptions.md R260, R261). -/
inductive CpuPlan where
  | idle
  | dispatch (k : Nat) (s : State)
  | execute (s : State)

/-- The interrupt check of `CpuStep`, in mode `Running` or `Halted` (60_exceptions.md R260). -/
def cpuPlan (s : State) : CpuPlan :=
  if s.mode = .halted ∧ pending s = 0 then .idle
  else if s.ime ∧ pending s ≠ 0 then .dispatch (lowestBit (pending s)) { s with mode := .running }
  else if s.eiPending then .execute { s with mode := .running, ime := true, eiPending := false }
  else .execute { s with mode := .running }

/-- Place a byte where a read of the address finds it, as a loader does: not a write, it has no side effect and reaches ROM and
the boot image.  In the I/O region, in 0xFEA0 to 0xFEFF and in absent or disabled cartridge RAM nothing is placed. -/
def placeByte (a : Word) (v : Byte) (s : State) : State :=
  match region a with
  | .romLow off =>
    match bootOverlay s off with
    | some boot => { s with cfg := { s.cfg with boot := some (Memory.set boot off v) } }
    | none =>
      { s with cfg := { s.cfg with
          cart := { s.cfg.cart with rom := Memory.set s.cfg.cart.rom (romLowBank s * 16384 + off) v } } }
  | .romHigh off =>
    { s with cfg := { s.cfg with
        cart := { s.cfg.cart with rom := Memory.set s.cfg.cart.rom (romHighBank s * 16384 + off) v } } }
  | .vram off => { s with vram := Memory.set s.vram off v }
  | .cartRam off => cartRamWrite off v s
  | .wram off => { s with wram := Memory.set s.wram off v }
  | .oam off => { s with oam := Memory.set s.oam off v }
  | .unusable => s
  | .io _ => s
  | .hram off => { s with hram := Memory.set s.hram off v }
  | .ie => { s with ie := v }

/-- Place a list of bytes from an address on. -/
def placeBytes (a : Word) (bs : List Byte) (s : State) : State :=
  match bs with
  | [] => s
  | b :: rest => placeBytes (a + 1) rest (placeByte a b s)

end Sys2Proof.Machine
end

