-- ==== Sys2Proof/Machine/Alu16.lean ====
section
/-! DEFINITION. The 16-bit arithmetic instructions (43_alu16.md R180 to R183). -/

namespace Sys2Proof.Machine

/-- `ADD HL,rr` (R180). -/
def addHl (p : Pair16) (s : State) : State :=
  let o := addHlOut s.hl (s.pair p)
  ((s.setHl o.r).setFlags s.fZ false o.h o.c).took 8

/-- `INC rr` and `DEC rr`: no flag changes (R181, R182). -/
def movePair (p : Pair16) (delta : Word) (s : State) : State := (s.setPair p (s.pair p + delta)).took 8

/-- `ADD SP,e` (R183). -/
def addSp (e : Byte) (s : State) : State :=
  let o := addSpOut s.sp e
  ((s.setPair .sp o.r).setFlags false false o.h o.c).took 16

/-- `ADD HL,BC` (R180). -/
def exec_add_hl_bc (s : State) : Result := .next (addHl .bc s)

/-- `ADD HL,DE` (R180). -/
def exec_add_hl_de (s : State) : Result := .next (addHl .de s)

/-- `ADD HL,HL` (R180). -/
def exec_add_hl_hl (s : State) : Result := .next (addHl .hl s)

/-- `ADD HL,SP` (R180). -/
def exec_add_hl_sp (s : State) : Result := .next (addHl .sp s)

/-- `INC BC` (R181). -/
def exec_inc_bc (s : State) : Result := .next (movePair .bc 1 s)

/-- `INC DE` (R181). -/
def exec_inc_de (s : State) : Result := .next (movePair .de 1 s)

/-- `INC HL` (R181). -/
def exec_inc_hl (s : State) : Result := .next (movePair .hl 1 s)

/-- `INC SP` (R181). -/
def exec_inc_sp (s : State) : Result := .next (movePair .sp 1 s)

/-- `DEC BC` (R182). -/
def exec_dec_bc (s : State) : Result := .next (movePair .bc (-1) s)

/-- `DEC DE` (R182). -/
def exec_dec_de (s : State) : Result := .next (movePair .de (-1) s)

/-- `DEC HL` (R182). -/
def exec_dec_hl (s : State) : Result := .next (movePair .hl (-1) s)

/-- `DEC SP` (R182). -/
def exec_dec_sp (s : State) : Result := .next (movePair .sp (-1) s)

/-- `ADD SP,e` (R183). -/
def exec_add_sp_e (e : Byte) (s : State) : Result := .next (addSp e s)

end Sys2Proof.Machine
end

