-- ==== Sys2Proof/Machine/Alu8.lean ====
section
/-! DEFINITION. The 8-bit arithmetic and logic instructions (42_alu8.md R150 to R166). -/

namespace Sys2Proof.Machine

/-- An accumulator operation with operand value `y` (R150 to R158). -/
def aluApply (op : AluOp) (y : Byte) (cyc : Nat) (s : State) : State :=
  let o := aluOut op s.a y s.fC
  ((s.setReg .a (aluKeeps op s.a o.r)).setAluFlags o).took cyc

/-- `INC` and `DEC` of a register (R159, R161): `o` is the outcome for its value. -/
def stepReg (r : Reg8) (o : AluOut) (s : State) : State := ((s.setReg r o.r).setAluFlags o).took 4

/-- `INC` and `DEC` of the byte at HL, one read and one write of the same address (R160, R162; 20_memory.md R47). -/
def stepMhl (o : AluOut) (s : State) : State := ((writeByte s.hl o.r s.countRead).setAluFlags o).took 12

/-- `DAA`: the outcome of decimal adjustment goes to A and the flags (R163). -/
def adjustA (s : State) : State :=
  let o := daaOut s.a s.fN s.fH s.fC
  ((s.setReg .a o.r).setAluFlags o).took 4

/-- `CPL` (R164). -/
def complementA (s : State) : State := ((s.setReg .a (s.a ^^^ 0xFF)).setFlags s.fZ true true s.fC).took 4

/-- `SCF` and `CCF`: the new carry is `c` (R165, R166). -/
def setCarry (c : Bool) (s : State) : State := (s.setFlags s.fZ false false c).took 4

/-- `ADD A,B` (R151). -/
def exec_add_a_b (s : State) : Result := .next (aluApply .add (s.reg .b) 4 s)

/-- `ADD A,C` (R151). -/
def exec_add_a_c (s : State) : Result := .next (aluApply .add (s.reg .c) 4 s)

/-- `ADD A,D` (R151). -/
def exec_add_a_d (s : State) : Result := .next (aluApply .add (s.reg .d) 4 s)

/-- `ADD A,E` (R151). -/
def exec_add_a_e (s : State) : Result := .next (aluApply .add (s.reg .e) 4 s)

/-- `ADD A,H` (R151). -/
def exec_add_a_h (s : State) : Result := .next (aluApply .add (s.reg .h) 4 s)

/-- `ADD A,L` (R151). -/
def exec_add_a_l (s : State) : Result := .next (aluApply .add (s.reg .l) 4 s)

/-- `ADD A,A` (R151). -/
def exec_add_a_a (s : State) : Result := .next (aluApply .add (s.reg .a) 4 s)

/-- `ADC A,B` (R152). -/
def exec_adc_a_b (s : State) : Result := .next (aluApply .adc (s.reg .b) 4 s)

/-- `ADC A,C` (R152). -/
def exec_adc_a_c (s : State) : Result := .next (aluApply .adc (s.reg .c) 4 s)

/-- `ADC A,D` (R152). -/
def exec_adc_a_d (s : State) : Result := .next (aluApply .adc (s.reg .d) 4 s)

/-- `ADC A,E` (R152). -/
def exec_adc_a_e (s : State) : Result := .next (aluApply .adc (s.reg .e) 4 s)

/-- `ADC A,H` (R152). -/
def exec_adc_a_h (s : State) : Result := .next (aluApply .adc (s.reg .h) 4 s)

/-- `ADC A,L` (R152). -/
def exec_adc_a_l (s : State) : Result := .next (aluApply .adc (s.reg .l) 4 s)

/-- `ADC A,A` (R152). -/
def exec_adc_a_a (s : State) : Result := .next (aluApply .adc (s.reg .a) 4 s)

/-- `SUB B` (R153). -/
def exec_sub_b (s : State) : Result := .next (aluApply .sub (s.reg .b) 4 s)

/-- `SUB C` (R153). -/
def exec_sub_c (s : State) : Result := .next (aluApply .sub (s.reg .c) 4 s)

/-- `SUB D` (R153). -/
def exec_sub_d (s : State) : Result := .next (aluApply .sub (s.reg .d) 4 s)

/-- `SUB E` (R153). -/
def exec_sub_e (s : State) : Result := .next (aluApply .sub (s.reg .e) 4 s)

/-- `SUB H` (R153). -/
def exec_sub_h (s : State) : Result := .next (aluApply .sub (s.reg .h) 4 s)

/-- `SUB L` (R153). -/
def exec_sub_l (s : State) : Result := .next (aluApply .sub (s.reg .l) 4 s)

/-- `SUB A` (R153). -/
def exec_sub_a (s : State) : Result := .next (aluApply .sub (s.reg .a) 4 s)

/-- `SBC A,B` (R154). -/
def exec_sbc_a_b (s : State) : Result := .next (aluApply .sbc (s.reg .b) 4 s)

/-- `SBC A,C` (R154). -/
def exec_sbc_a_c (s : State) : Result := .next (aluApply .sbc (s.reg .c) 4 s)

/-- `SBC A,D` (R154). -/
def exec_sbc_a_d (s : State) : Result := .next (aluApply .sbc (s.reg .d) 4 s)

/-- `SBC A,E` (R154). -/
def exec_sbc_a_e (s : State) : Result := .next (aluApply .sbc (s.reg .e) 4 s)

/-- `SBC A,H` (R154). -/
def exec_sbc_a_h (s : State) : Result := .next (aluApply .sbc (s.reg .h) 4 s)

/-- `SBC A,L` (R154). -/
def exec_sbc_a_l (s : State) : Result := .next (aluApply .sbc (s.reg .l) 4 s)

/-- `SBC A,A` (R154). -/
def exec_sbc_a_a (s : State) : Result := .next (aluApply .sbc (s.reg .a) 4 s)

/-- `AND B` (R155). -/
def exec_and_b (s : State) : Result := .next (aluApply .and (s.reg .b) 4 s)

/-- `AND C` (R155). -/
def exec_and_c (s : State) : Result := .next (aluApply .and (s.reg .c) 4 s)

/-- `AND D` (R155). -/
def exec_and_d (s : State) : Result := .next (aluApply .and (s.reg .d) 4 s)

/-- `AND E` (R155). -/
def exec_and_e (s : State) : Result := .next (aluApply .and (s.reg .e) 4 s)

/-- `AND H` (R155). -/
def exec_and_h (s : State) : Result := .next (aluApply .and (s.reg .h) 4 s)

/-- `AND L` (R155). -/
def exec_and_l (s : State) : Result := .next (aluApply .and (s.reg .l) 4 s)

/-- `AND A` (R155). -/
def exec_and_a (s : State) : Result := .next (aluApply .and (s.reg .a) 4 s)

/-- `XOR B` (R156). -/
def exec_xor_b (s : State) : Result := .next (aluApply .xor (s.reg .b) 4 s)

/-- `XOR C` (R156). -/
def exec_xor_c (s : State) : Result := .next (aluApply .xor (s.reg .c) 4 s)

/-- `XOR D` (R156). -/
def exec_xor_d (s : State) : Result := .next (aluApply .xor (s.reg .d) 4 s)

/-- `XOR E` (R156). -/
def exec_xor_e (s : State) : Result := .next (aluApply .xor (s.reg .e) 4 s)

/-- `XOR H` (R156). -/
def exec_xor_h (s : State) : Result := .next (aluApply .xor (s.reg .h) 4 s)

/-- `XOR L` (R156). -/
def exec_xor_l (s : State) : Result := .next (aluApply .xor (s.reg .l) 4 s)

/-- `XOR A` (R156). -/
def exec_xor_a (s : State) : Result := .next (aluApply .xor (s.reg .a) 4 s)

/-- `OR B` (R157). -/
def exec_or_b (s : State) : Result := .next (aluApply .or (s.reg .b) 4 s)

/-- `OR C` (R157). -/
def exec_or_c (s : State) : Result := .next (aluApply .or (s.reg .c) 4 s)

/-- `OR D` (R157). -/
def exec_or_d (s : State) : Result := .next (aluApply .or (s.reg .d) 4 s)

/-- `OR E` (R157). -/
def exec_or_e (s : State) : Result := .next (aluApply .or (s.reg .e) 4 s)

/-- `OR H` (R157). -/
def exec_or_h (s : State) : Result := .next (aluApply .or (s.reg .h) 4 s)

/-- `OR L` (R157). -/
def exec_or_l (s : State) : Result := .next (aluApply .or (s.reg .l) 4 s)

/-- `OR A` (R157). -/
def exec_or_a (s : State) : Result := .next (aluApply .or (s.reg .a) 4 s)

/-- `CP B` (R158). -/
def exec_cp_b (s : State) : Result := .next (aluApply .cp (s.reg .b) 4 s)

/-- `CP C` (R158). -/
def exec_cp_c (s : State) : Result := .next (aluApply .cp (s.reg .c) 4 s)

/-- `CP D` (R158). -/
def exec_cp_d (s : State) : Result := .next (aluApply .cp (s.reg .d) 4 s)

/-- `CP E` (R158). -/
def exec_cp_e (s : State) : Result := .next (aluApply .cp (s.reg .e) 4 s)

/-- `CP H` (R158). -/
def exec_cp_h (s : State) : Result := .next (aluApply .cp (s.reg .h) 4 s)

/-- `CP L` (R158). -/
def exec_cp_l (s : State) : Result := .next (aluApply .cp (s.reg .l) 4 s)

/-- `CP A` (R158). -/
def exec_cp_a (s : State) : Result := .next (aluApply .cp (s.reg .a) 4 s)

/-- `ADD A,(HL)` (R151). -/
def exec_add_a_mhl (s : State) : Result := .next (aluApply .add (readByte s s.hl) 8 s.countRead)

/-- `ADC A,(HL)` (R152). -/
def exec_adc_a_mhl (s : State) : Result := .next (aluApply .adc (readByte s s.hl) 8 s.countRead)

/-- `SUB (HL)` (R153). -/
def exec_sub_mhl (s : State) : Result := .next (aluApply .sub (readByte s s.hl) 8 s.countRead)

/-- `SBC A,(HL)` (R154). -/
def exec_sbc_a_mhl (s : State) : Result := .next (aluApply .sbc (readByte s s.hl) 8 s.countRead)

/-- `AND (HL)` (R155). -/
def exec_and_mhl (s : State) : Result := .next (aluApply .and (readByte s s.hl) 8 s.countRead)

/-- `XOR (HL)` (R156). -/
def exec_xor_mhl (s : State) : Result := .next (aluApply .xor (readByte s s.hl) 8 s.countRead)

/-- `OR (HL)` (R157). -/
def exec_or_mhl (s : State) : Result := .next (aluApply .or (readByte s s.hl) 8 s.countRead)

/-- `CP (HL)` (R158). -/
def exec_cp_mhl (s : State) : Result := .next (aluApply .cp (readByte s s.hl) 8 s.countRead)

/-- `ADD A,n` (R151). -/
def exec_add_a_n (n : Byte) (s : State) : Result := .next (aluApply .add n 8 s)

/-- `ADC A,n` (R152). -/
def exec_adc_a_n (n : Byte) (s : State) : Result := .next (aluApply .adc n 8 s)

/-- `SUB n` (R153). -/
def exec_sub_n (n : Byte) (s : State) : Result := .next (aluApply .sub n 8 s)

/-- `SBC A,n` (R154). -/
def exec_sbc_a_n (n : Byte) (s : State) : Result := .next (aluApply .sbc n 8 s)

/-- `AND n` (R155). -/
def exec_and_n (n : Byte) (s : State) : Result := .next (aluApply .and n 8 s)

/-- `XOR n` (R156). -/
def exec_xor_n (n : Byte) (s : State) : Result := .next (aluApply .xor n 8 s)

/-- `OR n` (R157). -/
def exec_or_n (n : Byte) (s : State) : Result := .next (aluApply .or n 8 s)

/-- `CP n` (R158). -/
def exec_cp_n (n : Byte) (s : State) : Result := .next (aluApply .cp n 8 s)

/-- `INC B` (R159). -/
def exec_inc_b (s : State) : Result := .next (stepReg .b (incOut (s.reg .b) s.fC) s)

/-- `INC C` (R159). -/
def exec_inc_c (s : State) : Result := .next (stepReg .c (incOut (s.reg .c) s.fC) s)

/-- `INC D` (R159). -/
def exec_inc_d (s : State) : Result := .next (stepReg .d (incOut (s.reg .d) s.fC) s)

/-- `INC E` (R159). -/
def exec_inc_e (s : State) : Result := .next (stepReg .e (incOut (s.reg .e) s.fC) s)

/-- `INC H` (R159). -/
def exec_inc_h (s : State) : Result := .next (stepReg .h (incOut (s.reg .h) s.fC) s)

/-- `INC L` (R159). -/
def exec_inc_l (s : State) : Result := .next (stepReg .l (incOut (s.reg .l) s.fC) s)

/-- `INC A` (R159). -/
def exec_inc_a (s : State) : Result := .next (stepReg .a (incOut (s.reg .a) s.fC) s)

/-- `INC (HL)` (R160). -/
def exec_inc_mhl (s : State) : Result := .next (stepMhl (incOut (readByte s s.hl) s.fC) s)

/-- `DEC B` (R161). -/
def exec_dec_b (s : State) : Result := .next (stepReg .b (decOut (s.reg .b) s.fC) s)

/-- `DEC C` (R161). -/
def exec_dec_c (s : State) : Result := .next (stepReg .c (decOut (s.reg .c) s.fC) s)

/-- `DEC D` (R161). -/
def exec_dec_d (s : State) : Result := .next (stepReg .d (decOut (s.reg .d) s.fC) s)

/-- `DEC E` (R161). -/
def exec_dec_e (s : State) : Result := .next (stepReg .e (decOut (s.reg .e) s.fC) s)

/-- `DEC H` (R161). -/
def exec_dec_h (s : State) : Result := .next (stepReg .h (decOut (s.reg .h) s.fC) s)

/-- `DEC L` (R161). -/
def exec_dec_l (s : State) : Result := .next (stepReg .l (decOut (s.reg .l) s.fC) s)

/-- `DEC A` (R161). -/
def exec_dec_a (s : State) : Result := .next (stepReg .a (decOut (s.reg .a) s.fC) s)

/-- `DEC (HL)` (R162). -/
def exec_dec_mhl (s : State) : Result := .next (stepMhl (decOut (readByte s s.hl) s.fC) s)

/-- `DAA` (R163). -/
def exec_daa (s : State) : Result := .next (adjustA s)

/-- `CPL` (R164). -/
def exec_cpl (s : State) : Result := .next (complementA s)

/-- `SCF` (R165). -/
def exec_scf (s : State) : Result := .next (setCarry true s)

/-- `CCF` (R166). -/
def exec_ccf (s : State) : Result := .next (setCarry (!s.fC) s)

end Sys2Proof.Machine
end

