-- ==== Sys2Proof/Machine/Control.lean ====
section
/-! DEFINITION. The control transfer instructions (45_control.md R220 to R231).  PC already points past the instruction. -/

namespace Sys2Proof.Machine

/-- Jump to `v` (R221, R223, R224). -/
def jumpTo (v : Word) (cyc : Nat) (s : State) : State := (s.setPc v).took cyc

/-- The target of a relative jump (R224, R225). -/
def relTarget (e : Byte) (s : State) : Word := s.pc + sext16 e

/-- Jump to `v` if the condition holds (R222, R225). -/
def jumpIf (cc : Cond) (v : Word) (taken notTaken : Nat) (s : State) : State :=
  if condHolds cc s then jumpTo v taken s else s.took notTaken

/-- Push PC and go to `v` (R226, R231). -/
def callTo (v : Word) (cyc : Nat) (s : State) : State := ((push16 s.pc s).setPc v).took cyc

/-- `CALL cc,nn` (R227). -/
def callIf (cc : Cond) (nn : Word) (s : State) : State := if condHolds cc s then callTo nn 24 s else s.took 12

/-- Pop PC (R228, R229). -/
def returnFrom (cyc : Nat) (s : State) : State := ((popped s).setPc (popValue s)).took cyc

/-- `RET cc` (R229). -/
def returnIf (cc : Cond) (s : State) : State := if condHolds cc s then returnFrom 20 s else s.took 8

/-- `JP nn` (R221). -/
def exec_jp_nn (nn : Word) (s : State) : Result := .next (jumpTo nn 16 s)

/-- `JP NZ,nn` (R222). -/
def exec_jp_nz_nn (nn : Word) (s : State) : Result := .next (jumpIf .nz nn 16 12 s)

/-- `JP Z,nn` (R222). -/
def exec_jp_z_nn (nn : Word) (s : State) : Result := .next (jumpIf .z nn 16 12 s)

/-- `JP NC,nn` (R222). -/
def exec_jp_nc_nn (nn : Word) (s : State) : Result := .next (jumpIf .nc nn 16 12 s)

/-- `JP C,nn` (R222). -/
def exec_jp_c_nn (nn : Word) (s : State) : Result := .next (jumpIf .c nn 16 12 s)

/-- `JP HL` (R223). -/
def exec_jp_hl (s : State) : Result := .next (jumpTo s.hl 4 s)

/-- `JR e` (R224). -/
def exec_jr_e (e : Byte) (s : State) : Result := .next (jumpTo (relTarget e s) 12 s)

/-- `JR NZ,e` (R225). -/
def exec_jr_nz_e (e : Byte) (s : State) : Result := .next (jumpIf .nz (relTarget e s) 12 8 s)

/-- `JR Z,e` (R225). -/
def exec_jr_z_e (e : Byte) (s : State) : Result := .next (jumpIf .z (relTarget e s) 12 8 s)

/-- `JR NC,e` (R225). -/
def exec_jr_nc_e (e : Byte) (s : State) : Result := .next (jumpIf .nc (relTarget e s) 12 8 s)

/-- `JR C,e` (R225). -/
def exec_jr_c_e (e : Byte) (s : State) : Result := .next (jumpIf .c (relTarget e s) 12 8 s)

/-- `CALL nn` (R226). -/
def exec_call_nn (nn : Word) (s : State) : Result := .next (callTo nn 24 s)

/-- `CALL NZ,nn` (R227). -/
def exec_call_nz_nn (nn : Word) (s : State) : Result := .next (callIf .nz nn s)

/-- `CALL Z,nn` (R227). -/
def exec_call_z_nn (nn : Word) (s : State) : Result := .next (callIf .z nn s)

/-- `CALL NC,nn` (R227). -/
def exec_call_nc_nn (nn : Word) (s : State) : Result := .next (callIf .nc nn s)

/-- `CALL C,nn` (R227). -/
def exec_call_c_nn (nn : Word) (s : State) : Result := .next (callIf .c nn s)

/-- `RET` (R228). -/
def exec_ret (s : State) : Result := .next (returnFrom 16 s)

/-- `RET NZ` (R229). -/
def exec_ret_nz (s : State) : Result := .next (returnIf .nz s)

/-- `RET Z` (R229). -/
def exec_ret_z (s : State) : Result := .next (returnIf .z s)

/-- `RET NC` (R229). -/
def exec_ret_nc (s : State) : Result := .next (returnIf .nc s)

/-- `RET C` (R229). -/
def exec_ret_c (s : State) : Result := .next (returnIf .c s)

/-- `RETI` (R230). -/
def exec_reti (s : State) : Result := .next ((returnFromInterrupt s).took 16)

/-- `RST 00H` (R231). -/
def exec_rst_00h (s : State) : Result := .next (callTo (rstTarget .t00) 16 s)

/-- `RST 08H` (R231). -/
def exec_rst_08h (s : State) : Result := .next (callTo (rstTarget .t08) 16 s)

/-- `RST 10H` (R231). -/
def exec_rst_10h (s : State) : Result := .next (callTo (rstTarget .t10) 16 s)

/-- `RST 18H` (R231). -/
def exec_rst_18h (s : State) : Result := .next (callTo (rstTarget .t18) 16 s)

/-- `RST 20H` (R231). -/
def exec_rst_20h (s : State) : Result := .next (callTo (rstTarget .t20) 16 s)

/-- `RST 28H` (R231). -/
def exec_rst_28h (s : State) : Result := .next (callTo (rstTarget .t28) 16 s)

/-- `RST 30H` (R231). -/
def exec_rst_30h (s : State) : Result := .next (callTo (rstTarget .t30) 16 s)

/-- `RST 38H` (R231). -/
def exec_rst_38h (s : State) : Result := .next (callTo (rstTarget .t38) 16 s)

end Sys2Proof.Machine
end

