-- ==== Sys2Proof/Machine/Load16.lean ====
section
/-! DEFINITION. The 16-bit loads and the stack instructions (41_load16_stack.md R140 to R145). -/

namespace Sys2Proof.Machine

/-- Load a 16-bit immediate (R140). -/
def loadPairImm (p : Pair16) (nn : Word) (s : State) : State := (s.setPair p nn).took 12

/-- Push a pair (R144). -/
def pushPair (p : StackPair) (s : State) : State := (push16 (s.stackPair p) s).took 16

/-- Pop a pair (R145). -/
def popPair (p : StackPair) (s : State) : State := ((popped s).setStackPair p (popValue s)).took 12

/-- Load HL with SP plus a signed displacement (R143). -/
def loadHlSp (e : Byte) (s : State) : State :=
  let o := addSpOut s.sp e
  ((s.setHl o.r).setFlags false false o.h o.c).took 12

/-- `LD BC,nn` (R140). -/
def exec_ld_bc_nn (nn : Word) (s : State) : Result := .next (loadPairImm .bc nn s)

/-- `LD DE,nn` (R140). -/
def exec_ld_de_nn (nn : Word) (s : State) : Result := .next (loadPairImm .de nn s)

/-- `LD HL,nn` (R140). -/
def exec_ld_hl_nn (nn : Word) (s : State) : Result := .next (loadPairImm .hl nn s)

/-- `LD SP,nn` (R140). -/
def exec_ld_sp_nn (nn : Word) (s : State) : Result := .next (loadPairImm .sp nn s)

/-- `LD (nn),SP` (R141). -/
def exec_ld_mnn_sp (nn : Word) (s : State) : Result := .next ((writeWord nn s.sp s).took 20)

/-- `LD SP,HL` (R142). -/
def exec_ld_sp_hl (s : State) : Result := .next ((s.setPair .sp s.hl).took 8)

/-- `LD HL,SP+e` (R143). -/
def exec_ld_hl_sp_e (e : Byte) (s : State) : Result := .next (loadHlSp e s)

/-- `PUSH BC` (R144). -/
def exec_push_bc (s : State) : Result := .next (pushPair .bc s)

/-- `PUSH DE` (R144). -/
def exec_push_de (s : State) : Result := .next (pushPair .de s)

/-- `PUSH HL` (R144). -/
def exec_push_hl (s : State) : Result := .next (pushPair .hl s)

/-- `PUSH AF` (R144). -/
def exec_push_af (s : State) : Result := .next (pushPair .af s)

/-- `POP BC` (R145). -/
def exec_pop_bc (s : State) : Result := .next (popPair .bc s)

/-- `POP DE` (R145). -/
def exec_pop_de (s : State) : Result := .next (popPair .de s)

/-- `POP HL` (R145). -/
def exec_pop_hl (s : State) : Result := .next (popPair .hl s)

/-- `POP AF` (R145). -/
def exec_pop_af (s : State) : Result := .next (popPair .af s)

end Sys2Proof.Machine
end

