-- ==== Sys2Proof/Machine/Load8.lean ====
section
/-! DEFINITION. The 8-bit loads and stores (40_load8.md R110 to R128).  A meaning starts where the fetch has left PC past the
whole instruction (10_state.md R17). -/

namespace Sys2Proof.Machine

/-- Copy register to register (R110). -/
def loadRegReg (r x : Reg8) (s : State) : State := (s.setReg r (s.reg x)).took 4

/-- Load an immediate into a register (R111). -/
def loadRegImm (r : Reg8) (n : Byte) (s : State) : State := (s.setReg r n).took 8

/-- Load a register from the byte at address `a`, in `cyc` cycles (R112, R115, R116, R119, R121, R123). -/
def loadRegMem (r : Reg8) (a : Word) (cyc : Nat) (s : State) : State :=
  (s.countRead.setReg r (readByte s a)).took cyc

/-- Store a byte to address `a`, in `cyc` cycles (R113, R114, R117, R118, R120, R122, R124). -/
def storeMem (a : Word) (v : Byte) (cyc : Nat) (s : State) : State := (writeByte a v s).took cyc

/-- Load A from the byte at HL and move HL by `delta` (R125, R126). -/
def loadAMove (delta : Word) (s : State) : State := (loadRegMem .a s.hl 8 s).setHl (s.hl + delta)

/-- Store A to the byte at HL and move HL by `delta` (R127, R128). -/
def storeAMove (delta : Word) (s : State) : State := (storeMem s.hl s.a 8 s).setHl (s.hl + delta)

/-- `LD B,B` (R110). -/
def exec_ld_b_b (s : State) : Result := .next (loadRegReg .b .b s)

/-- `LD B,C` (R110). -/
def exec_ld_b_c (s : State) : Result := .next (loadRegReg .b .c s)

/-- `LD B,D` (R110). -/
def exec_ld_b_d (s : State) : Result := .next (loadRegReg .b .d s)

/-- `LD B,E` (R110). -/
def exec_ld_b_e (s : State) : Result := .next (loadRegReg .b .e s)

/-- `LD B,H` (R110). -/
def exec_ld_b_h (s : State) : Result := .next (loadRegReg .b .h s)

/-- `LD B,L` (R110). -/
def exec_ld_b_l (s : State) : Result := .next (loadRegReg .b .l s)

/-- `LD B,A` (R110). -/
def exec_ld_b_a (s : State) : Result := .next (loadRegReg .b .a s)

/-- `LD C,B` (R110). -/
def exec_ld_c_b (s : State) : Result := .next (loadRegReg .c .b s)

/-- `LD C,C` (R110). -/
def exec_ld_c_c (s : State) : Result := .next (loadRegReg .c .c s)

/-- `LD C,D` (R110). -/
def exec_ld_c_d (s : State) : Result := .next (loadRegReg .c .d s)

/-- `LD C,E` (R110). -/
def exec_ld_c_e (s : State) : Result := .next (loadRegReg .c .e s)

/-- `LD C,H` (R110). -/
def exec_ld_c_h (s : State) : Result := .next (loadRegReg .c .h s)

/-- `LD C,L` (R110). -/
def exec_ld_c_l (s : State) : Result := .next (loadRegReg .c .l s)

/-- `LD C,A` (R110). -/
def exec_ld_c_a (s : State) : Result := .next (loadRegReg .c .a s)

/-- `LD D,B` (R110). -/
def exec_ld_d_b (s : State) : Result := .next (loadRegReg .d .b s)

/-- `LD D,C` (R110). -/
def exec_ld_d_c (s : State) : Result := .next (loadRegReg .d .c s)

/-- `LD D,D` (R110). -/
def exec_ld_d_d (s : State) : Result := .next (loadRegReg .d .d s)

/-- `LD D,E` (R110). -/
def exec_ld_d_e (s : State) : Result := .next (loadRegReg .d .e s)

/-- `LD D,H` (R110). -/
def exec_ld_d_h (s : State) : Result := .next (loadRegReg .d .h s)

/-- `LD D,L` (R110). -/
def exec_ld_d_l (s : State) : Result := .next (loadRegReg .d .l s)

/-- `LD D,A` (R110). -/
def exec_ld_d_a (s : State) : Result := .next (loadRegReg .d .a s)

/-- `LD E,B` (R110). -/
def exec_ld_e_b (s : State) : Result := .next (loadRegReg .e .b s)

/-- `LD E,C` (R110). -/
def exec_ld_e_c (s : State) : Result := .next (loadRegReg .e .c s)

/-- `LD E,D` (R110). -/
def exec_ld_e_d (s : State) : Result := .next (loadRegReg .e .d s)

/-- `LD E,E` (R110). -/
def exec_ld_e_e (s : State) : Result := .next (loadRegReg .e .e s)

/-- `LD E,H` (R110). -/
def exec_ld_e_h (s : State) : Result := .next (loadRegReg .e .h s)

/-- `LD E,L` (R110). -/
def exec_ld_e_l (s : State) : Result := .next (loadRegReg .e .l s)

/-- `LD E,A` (R110). -/
def exec_ld_e_a (s : State) : Result := .next (loadRegReg .e .a s)

/-- `LD H,B` (R110). -/
def exec_ld_h_b (s : State) : Result := .next (loadRegReg .h .b s)

/-- `LD H,C` (R110). -/
def exec_ld_h_c (s : State) : Result := .next (loadRegReg .h .c s)

/-- `LD H,D` (R110). -/
def exec_ld_h_d (s : State) : Result := .next (loadRegReg .h .d s)

/-- `LD H,E` (R110). -/
def exec_ld_h_e (s : State) : Result := .next (loadRegReg .h .e s)

/-- `LD H,H` (R110). -/
def exec_ld_h_h (s : State) : Result := .next (loadRegReg .h .h s)

/-- `LD H,L` (R110). -/
def exec_ld_h_l (s : State) : Result := .next (loadRegReg .h .l s)

/-- `LD H,A` (R110). -/
def exec_ld_h_a (s : State) : Result := .next (loadRegReg .h .a s)

/-- `LD L,B` (R110). -/
def exec_ld_l_b (s : State) : Result := .next (loadRegReg .l .b s)

/-- `LD L,C` (R110). -/
def exec_ld_l_c (s : State) : Result := .next (loadRegReg .l .c s)

/-- `LD L,D` (R110). -/
def exec_ld_l_d (s : State) : Result := .next (loadRegReg .l .d s)

/-- `LD L,E` (R110). -/
def exec_ld_l_e (s : State) : Result := .next (loadRegReg .l .e s)

/-- `LD L,H` (R110). -/
def exec_ld_l_h (s : State) : Result := .next (loadRegReg .l .h s)

/-- `LD L,L` (R110). -/
def exec_ld_l_l (s : State) : Result := .next (loadRegReg .l .l s)

/-- `LD L,A` (R110). -/
def exec_ld_l_a (s : State) : Result := .next (loadRegReg .l .a s)

/-- `LD A,B` (R110). -/
def exec_ld_a_b (s : State) : Result := .next (loadRegReg .a .b s)

/-- `LD A,C` (R110). -/
def exec_ld_a_c (s : State) : Result := .next (loadRegReg .a .c s)

/-- `LD A,D` (R110). -/
def exec_ld_a_d (s : State) : Result := .next (loadRegReg .a .d s)

/-- `LD A,E` (R110). -/
def exec_ld_a_e (s : State) : Result := .next (loadRegReg .a .e s)

/-- `LD A,H` (R110). -/
def exec_ld_a_h (s : State) : Result := .next (loadRegReg .a .h s)

/-- `LD A,L` (R110). -/
def exec_ld_a_l (s : State) : Result := .next (loadRegReg .a .l s)

/-- `LD A,A` (R110). -/
def exec_ld_a_a (s : State) : Result := .next (loadRegReg .a .a s)

/-- `LD B,n` (R111). -/
def exec_ld_b_n (n : Byte) (s : State) : Result := .next (loadRegImm .b n s)

/-- `LD C,n` (R111). -/
def exec_ld_c_n (n : Byte) (s : State) : Result := .next (loadRegImm .c n s)

/-- `LD D,n` (R111). -/
def exec_ld_d_n (n : Byte) (s : State) : Result := .next (loadRegImm .d n s)

/-- `LD E,n` (R111). -/
def exec_ld_e_n (n : Byte) (s : State) : Result := .next (loadRegImm .e n s)

/-- `LD H,n` (R111). -/
def exec_ld_h_n (n : Byte) (s : State) : Result := .next (loadRegImm .h n s)

/-- `LD L,n` (R111). -/
def exec_ld_l_n (n : Byte) (s : State) : Result := .next (loadRegImm .l n s)

/-- `LD A,n` (R111). -/
def exec_ld_a_n (n : Byte) (s : State) : Result := .next (loadRegImm .a n s)

/-- `LD B,(HL)` (R112). -/
def exec_ld_b_mhl (s : State) : Result := .next (loadRegMem .b s.hl 8 s)

/-- `LD C,(HL)` (R112). -/
def exec_ld_c_mhl (s : State) : Result := .next (loadRegMem .c s.hl 8 s)

/-- `LD D,(HL)` (R112). -/
def exec_ld_d_mhl (s : State) : Result := .next (loadRegMem .d s.hl 8 s)

/-- `LD E,(HL)` (R112). -/
def exec_ld_e_mhl (s : State) : Result := .next (loadRegMem .e s.hl 8 s)

/-- `LD H,(HL)` (R112). -/
def exec_ld_h_mhl (s : State) : Result := .next (loadRegMem .h s.hl 8 s)

/-- `LD L,(HL)` (R112). -/
def exec_ld_l_mhl (s : State) : Result := .next (loadRegMem .l s.hl 8 s)

/-- `LD A,(HL)` (R112). -/
def exec_ld_a_mhl (s : State) : Result := .next (loadRegMem .a s.hl 8 s)

/-- `LD (HL),B` (R113). -/
def exec_ld_mhl_b (s : State) : Result := .next (storeMem s.hl (s.reg .b) 8 s)

/-- `LD (HL),C` (R113). -/
def exec_ld_mhl_c (s : State) : Result := .next (storeMem s.hl (s.reg .c) 8 s)

/-- `LD (HL),D` (R113). -/
def exec_ld_mhl_d (s : State) : Result := .next (storeMem s.hl (s.reg .d) 8 s)

/-- `LD (HL),E` (R113). -/
def exec_ld_mhl_e (s : State) : Result := .next (storeMem s.hl (s.reg .e) 8 s)

/-- `LD (HL),H` (R113). -/
def exec_ld_mhl_h (s : State) : Result := .next (storeMem s.hl (s.reg .h) 8 s)

/-- `LD (HL),L` (R113). -/
def exec_ld_mhl_l (s : State) : Result := .next (storeMem s.hl (s.reg .l) 8 s)

/-- `LD (HL),A` (R113). -/
def exec_ld_mhl_a (s : State) : Result := .next (storeMem s.hl (s.reg .a) 8 s)

/-- `LD (HL),n` (R114). -/
def exec_ld_mhl_n (n : Byte) (s : State) : Result := .next (storeMem s.hl n 12 s)

/-- `LD A,(BC)` (R115). -/
def exec_ld_a_mbc (s : State) : Result := .next (loadRegMem .a s.bc 8 s)

/-- `LD A,(DE)` (R116). -/
def exec_ld_a_mde (s : State) : Result := .next (loadRegMem .a s.de 8 s)

/-- `LD (BC),A` (R117). -/
def exec_ld_mbc_a (s : State) : Result := .next (storeMem s.bc s.a 8 s)

/-- `LD (DE),A` (R118). -/
def exec_ld_mde_a (s : State) : Result := .next (storeMem s.de s.a 8 s)

/-- `LD A,(nn)` (R119). -/
def exec_ld_a_mnn (nn : Word) (s : State) : Result := .next (loadRegMem .a nn 16 s)

/-- `LD (nn),A` (R120). -/
def exec_ld_mnn_a (nn : Word) (s : State) : Result := .next (storeMem nn s.a 16 s)

/-- `LDH A,(C)` (R121). -/
def exec_ldh_a_mc (s : State) : Result := .next (loadRegMem .a (highPage s.c) 8 s)

/-- `LDH (C),A` (R122). -/
def exec_ldh_mc_a (s : State) : Result := .next (storeMem (highPage s.c) s.a 8 s)

/-- `LDH A,(n)` (R123). -/
def exec_ldh_a_mn (n : Byte) (s : State) : Result := .next (loadRegMem .a (highPage n) 12 s)

/-- `LDH (n),A` (R124). -/
def exec_ldh_mn_a (n : Byte) (s : State) : Result := .next (storeMem (highPage n) s.a 12 s)

/-- `LD A,(HL+)` (R125). -/
def exec_ld_a_mhli (s : State) : Result := .next (loadAMove 1 s)

/-- `LD A,(HL-)` (R126). -/
def exec_ld_a_mhld (s : State) : Result := .next (loadAMove (-1) s)

/-- `LD (HL+),A` (R127). -/
def exec_ld_mhli_a (s : State) : Result := .next (storeAMove 1 s)

/-- `LD (HL-),A` (R128). -/
def exec_ld_mhld_a (s : State) : Result := .next (storeAMove (-1) s)

end Sys2Proof.Machine
end

