-- ==== Sys2Proof/Machine/Rotate.lean ====
section
/-! DEFINITION. The accumulator rotates and the whole CB table (44_rotate_shift_bit.md R190 to R205), and the prefix byte that selects it
(46_system.md R245). -/

namespace Sys2Proof.Machine

/-- The accumulator rotates (R190 to R193). -/
def rotateA (op : AccRotOp) (s : State) : State :=
  let o := accRotOut op s.a s.fC
  ((s.setReg .a o.r).setAluFlags o).took 4

/-- Cycles of a CB-table instruction: 8 on a register, `mem` on `(HL)` (R194). -/
def cbCycles (x : Operand8) (mem : Nat) : Nat :=
  match x with
  | .reg _ => 8
  | .mhl => mem

/-- The rotates, shifts and SWAP: read, compute, write back (R194 to R202). -/
def rotateOperand (op : RotOp) (x : Operand8) (s : State) : State :=
  let o := rotOut op (operandValue x s) s.fC
  ((operandWrite x o.r (operandRead x s)).setAluFlags o).took (cbCycles x 16)

/-- `BIT b,s`: the operand is not written and fC is kept (R203). -/
def testBit (b : BitIndex) (x : Operand8) (s : State) : State :=
  ((operandRead x s).setFlags (!(operandValue x s).getLsbD (bitNumber b)) false true s.fC).took (cbCycles x 12)

/-- `RES b,s` (R204). -/
def resetBit (b : BitIndex) (x : Operand8) (s : State) : State :=
  (operandWrite x (operandValue x s &&& ~~~BitVec.twoPow 8 (bitNumber b)) (operandRead x s)).took (cbCycles x 16)

/-- `SET b,s` (R205). -/
def setBit (b : BitIndex) (x : Operand8) (s : State) : State :=
  (operandWrite x (operandValue x s ||| BitVec.twoPow 8 (bitNumber b)) (operandRead x s)).took (cbCycles x 16)

/-- The CB-table entry for `op2`, by its fields (30_encoding.md R100; 44_rotate_shift_bit.md R194). -/
def cbEntry (op2 : Byte) (s : State) : State :=
  let y := op2.toNat / 8 % 8
  let x := r8 (op2.toNat % 8)
  match op2.toNat / 64 with
  | 0 => rotateOperand (rotOf y) x s
  | 1 => testBit (bitOf y) x s
  | 2 => resetBit (bitOf y) x s
  | _ => setBit (bitOf y) x s

/-- `RLCA` (R190). -/
def exec_rlca (s : State) : Result := .next (rotateA .rlca s)

/-- `RRCA` (R191). -/
def exec_rrca (s : State) : Result := .next (rotateA .rrca s)

/-- `RLA` (R192). -/
def exec_rla (s : State) : Result := .next (rotateA .rla s)

/-- `RRA` (R193). -/
def exec_rra (s : State) : Result := .next (rotateA .rra s)

/-- `PREFIX CB` (R245). -/
def exec_prefix_cb (s : State) : Result := .next (cbEntry (readByte s s.pc) (afterFetch s))

/-- `RLC B` (R195). -/
def exec_rlc_b (s : State) : Result := .next (rotateOperand .rlc (.reg .b) s)

/-- `RLC C` (R195). -/
def exec_rlc_c (s : State) : Result := .next (rotateOperand .rlc (.reg .c) s)

/-- `RLC D` (R195). -/
def exec_rlc_d (s : State) : Result := .next (rotateOperand .rlc (.reg .d) s)

/-- `RLC E` (R195). -/
def exec_rlc_e (s : State) : Result := .next (rotateOperand .rlc (.reg .e) s)

/-- `RLC H` (R195). -/
def exec_rlc_h (s : State) : Result := .next (rotateOperand .rlc (.reg .h) s)

/-- `RLC L` (R195). -/
def exec_rlc_l (s : State) : Result := .next (rotateOperand .rlc (.reg .l) s)

/-- `RLC A` (R195). -/
def exec_rlc_a (s : State) : Result := .next (rotateOperand .rlc (.reg .a) s)

/-- `RLC (HL)` (R195). -/
def exec_rlc_mhl (s : State) : Result := .next (rotateOperand .rlc .mhl s)

/-- `RRC B` (R196). -/
def exec_rrc_b (s : State) : Result := .next (rotateOperand .rrc (.reg .b) s)

/-- `RRC C` (R196). -/
def exec_rrc_c (s : State) : Result := .next (rotateOperand .rrc (.reg .c) s)

/-- `RRC D` (R196). -/
def exec_rrc_d (s : State) : Result := .next (rotateOperand .rrc (.reg .d) s)

/-- `RRC E` (R196). -/
def exec_rrc_e (s : State) : Result := .next (rotateOperand .rrc (.reg .e) s)

/-- `RRC H` (R196). -/
def exec_rrc_h (s : State) : Result := .next (rotateOperand .rrc (.reg .h) s)

/-- `RRC L` (R196). -/
def exec_rrc_l (s : State) : Result := .next (rotateOperand .rrc (.reg .l) s)

/-- `RRC A` (R196). -/
def exec_rrc_a (s : State) : Result := .next (rotateOperand .rrc (.reg .a) s)

/-- `RRC (HL)` (R196). -/
def exec_rrc_mhl (s : State) : Result := .next (rotateOperand .rrc .mhl s)

/-- `RL B` (R197). -/
def exec_rl_b (s : State) : Result := .next (rotateOperand .rl (.reg .b) s)

/-- `RL C` (R197). -/
def exec_rl_c (s : State) : Result := .next (rotateOperand .rl (.reg .c) s)

/-- `RL D` (R197). -/
def exec_rl_d (s : State) : Result := .next (rotateOperand .rl (.reg .d) s)

/-- `RL E` (R197). -/
def exec_rl_e (s : State) : Result := .next (rotateOperand .rl (.reg .e) s)

/-- `RL H` (R197). -/
def exec_rl_h (s : State) : Result := .next (rotateOperand .rl (.reg .h) s)

/-- `RL L` (R197). -/
def exec_rl_l (s : State) : Result := .next (rotateOperand .rl (.reg .l) s)

/-- `RL A` (R197). -/
def exec_rl_a (s : State) : Result := .next (rotateOperand .rl (.reg .a) s)

/-- `RL (HL)` (R197). -/
def exec_rl_mhl (s : State) : Result := .next (rotateOperand .rl .mhl s)

/-- `RR B` (R198). -/
def exec_rr_b (s : State) : Result := .next (rotateOperand .rr (.reg .b) s)

/-- `RR C` (R198). -/
def exec_rr_c (s : State) : Result := .next (rotateOperand .rr (.reg .c) s)

/-- `RR D` (R198). -/
def exec_rr_d (s : State) : Result := .next (rotateOperand .rr (.reg .d) s)

/-- `RR E` (R198). -/
def exec_rr_e (s : State) : Result := .next (rotateOperand .rr (.reg .e) s)

/-- `RR H` (R198). -/
def exec_rr_h (s : State) : Result := .next (rotateOperand .rr (.reg .h) s)

/-- `RR L` (R198). -/
def exec_rr_l (s : State) : Result := .next (rotateOperand .rr (.reg .l) s)

/-- `RR A` (R198). -/
def exec_rr_a (s : State) : Result := .next (rotateOperand .rr (.reg .a) s)

/-- `RR (HL)` (R198). -/
def exec_rr_mhl (s : State) : Result := .next (rotateOperand .rr .mhl s)

/-- `SLA B` (R199). -/
def exec_sla_b (s : State) : Result := .next (rotateOperand .sla (.reg .b) s)

/-- `SLA C` (R199). -/
def exec_sla_c (s : State) : Result := .next (rotateOperand .sla (.reg .c) s)

/-- `SLA D` (R199). -/
def exec_sla_d (s : State) : Result := .next (rotateOperand .sla (.reg .d) s)

/-- `SLA E` (R199). -/
def exec_sla_e (s : State) : Result := .next (rotateOperand .sla (.reg .e) s)

/-- `SLA H` (R199). -/
def exec_sla_h (s : State) : Result := .next (rotateOperand .sla (.reg .h) s)

/-- `SLA L` (R199). -/
def exec_sla_l (s : State) : Result := .next (rotateOperand .sla (.reg .l) s)

/-- `SLA A` (R199). -/
def exec_sla_a (s : State) : Result := .next (rotateOperand .sla (.reg .a) s)

/-- `SLA (HL)` (R199). -/
def exec_sla_mhl (s : State) : Result := .next (rotateOperand .sla .mhl s)

/-- `SRA B` (R200). -/
def exec_sra_b (s : State) : Result := .next (rotateOperand .sra (.reg .b) s)

/-- `SRA C` (R200). -/
def exec_sra_c (s : State) : Result := .next (rotateOperand .sra (.reg .c) s)

/-- `SRA D` (R200). -/
def exec_sra_d (s : State) : Result := .next (rotateOperand .sra (.reg .d) s)

/-- `SRA E` (R200). -/
def exec_sra_e (s : State) : Result := .next (rotateOperand .sra (.reg .e) s)

/-- `SRA H` (R200). -/
def exec_sra_h (s : State) : Result := .next (rotateOperand .sra (.reg .h) s)

/-- `SRA L` (R200). -/
def exec_sra_l (s : State) : Result := .next (rotateOperand .sra (.reg .l) s)

/-- `SRA A` (R200). -/
def exec_sra_a (s : State) : Result := .next (rotateOperand .sra (.reg .a) s)

/-- `SRA (HL)` (R200). -/
def exec_sra_mhl (s : State) : Result := .next (rotateOperand .sra .mhl s)

/-- `SWAP B` (R201). -/
def exec_swap_b (s : State) : Result := .next (rotateOperand .swap (.reg .b) s)

/-- `SWAP C` (R201). -/
def exec_swap_c (s : State) : Result := .next (rotateOperand .swap (.reg .c) s)

/-- `SWAP D` (R201). -/
def exec_swap_d (s : State) : Result := .next (rotateOperand .swap (.reg .d) s)

/-- `SWAP E` (R201). -/
def exec_swap_e (s : State) : Result := .next (rotateOperand .swap (.reg .e) s)

/-- `SWAP H` (R201). -/
def exec_swap_h (s : State) : Result := .next (rotateOperand .swap (.reg .h) s)

/-- `SWAP L` (R201). -/
def exec_swap_l (s : State) : Result := .next (rotateOperand .swap (.reg .l) s)

/-- `SWAP A` (R201). -/
def exec_swap_a (s : State) : Result := .next (rotateOperand .swap (.reg .a) s)

/-- `SWAP (HL)` (R201). -/
def exec_swap_mhl (s : State) : Result := .next (rotateOperand .swap .mhl s)

/-- `SRL B` (R202). -/
def exec_srl_b (s : State) : Result := .next (rotateOperand .srl (.reg .b) s)

/-- `SRL C` (R202). -/
def exec_srl_c (s : State) : Result := .next (rotateOperand .srl (.reg .c) s)

/-- `SRL D` (R202). -/
def exec_srl_d (s : State) : Result := .next (rotateOperand .srl (.reg .d) s)

/-- `SRL E` (R202). -/
def exec_srl_e (s : State) : Result := .next (rotateOperand .srl (.reg .e) s)

/-- `SRL H` (R202). -/
def exec_srl_h (s : State) : Result := .next (rotateOperand .srl (.reg .h) s)

/-- `SRL L` (R202). -/
def exec_srl_l (s : State) : Result := .next (rotateOperand .srl (.reg .l) s)

/-- `SRL A` (R202). -/
def exec_srl_a (s : State) : Result := .next (rotateOperand .srl (.reg .a) s)

/-- `SRL (HL)` (R202). -/
def exec_srl_mhl (s : State) : Result := .next (rotateOperand .srl .mhl s)

/-- `BIT 0,B` (R203). -/
def exec_bit_0_b (s : State) : Result := .next (testBit .b0 (.reg .b) s)

/-- `BIT 0,C` (R203). -/
def exec_bit_0_c (s : State) : Result := .next (testBit .b0 (.reg .c) s)

/-- `BIT 0,D` (R203). -/
def exec_bit_0_d (s : State) : Result := .next (testBit .b0 (.reg .d) s)

/-- `BIT 0,E` (R203). -/
def exec_bit_0_e (s : State) : Result := .next (testBit .b0 (.reg .e) s)

/-- `BIT 0,H` (R203). -/
def exec_bit_0_h (s : State) : Result := .next (testBit .b0 (.reg .h) s)

/-- `BIT 0,L` (R203). -/
def exec_bit_0_l (s : State) : Result := .next (testBit .b0 (.reg .l) s)

/-- `BIT 0,A` (R203). -/
def exec_bit_0_a (s : State) : Result := .next (testBit .b0 (.reg .a) s)

/-- `BIT 0,(HL)` (R203). -/
def exec_bit_0_mhl (s : State) : Result := .next (testBit .b0 .mhl s)

/-- `BIT 1,B` (R203). -/
def exec_bit_1_b (s : State) : Result := .next (testBit .b1 (.reg .b) s)

/-- `BIT 1,C` (R203). -/
def exec_bit_1_c (s : State) : Result := .next (testBit .b1 (.reg .c) s)

/-- `BIT 1,D` (R203). -/
def exec_bit_1_d (s : State) : Result := .next (testBit .b1 (.reg .d) s)

/-- `BIT 1,E` (R203). -/
def exec_bit_1_e (s : State) : Result := .next (testBit .b1 (.reg .e) s)

/-- `BIT 1,H` (R203). -/
def exec_bit_1_h (s : State) : Result := .next (testBit .b1 (.reg .h) s)

/-- `BIT 1,L` (R203). -/
def exec_bit_1_l (s : State) : Result := .next (testBit .b1 (.reg .l) s)

/-- `BIT 1,A` (R203). -/
def exec_bit_1_a (s : State) : Result := .next (testBit .b1 (.reg .a) s)

/-- `BIT 1,(HL)` (R203). -/
def exec_bit_1_mhl (s : State) : Result := .next (testBit .b1 .mhl s)

/-- `BIT 2,B` (R203). -/
def exec_bit_2_b (s : State) : Result := .next (testBit .b2 (.reg .b) s)

/-- `BIT 2,C` (R203). -/
def exec_bit_2_c (s : State) : Result := .next (testBit .b2 (.reg .c) s)

/-- `BIT 2,D` (R203). -/
def exec_bit_2_d (s : State) : Result := .next (testBit .b2 (.reg .d) s)

/-- `BIT 2,E` (R203). -/
def exec_bit_2_e (s : State) : Result := .next (testBit .b2 (.reg .e) s)

/-- `BIT 2,H` (R203). -/
def exec_bit_2_h (s : State) : Result := .next (testBit .b2 (.reg .h) s)

/-- `BIT 2,L` (R203). -/
def exec_bit_2_l (s : State) : Result := .next (testBit .b2 (.reg .l) s)

/-- `BIT 2,A` (R203). -/
def exec_bit_2_a (s : State) : Result := .next (testBit .b2 (.reg .a) s)

/-- `BIT 2,(HL)` (R203). -/
def exec_bit_2_mhl (s : State) : Result := .next (testBit .b2 .mhl s)

/-- `BIT 3,B` (R203). -/
def exec_bit_3_b (s : State) : Result := .next (testBit .b3 (.reg .b) s)

/-- `BIT 3,C` (R203). -/
def exec_bit_3_c (s : State) : Result := .next (testBit .b3 (.reg .c) s)

/-- `BIT 3,D` (R203). -/
def exec_bit_3_d (s : State) : Result := .next (testBit .b3 (.reg .d) s)

/-- `BIT 3,E` (R203). -/
def exec_bit_3_e (s : State) : Result := .next (testBit .b3 (.reg .e) s)

/-- `BIT 3,H` (R203). -/
def exec_bit_3_h (s : State) : Result := .next (testBit .b3 (.reg .h) s)

/-- `BIT 3,L` (R203). -/
def exec_bit_3_l (s : State) : Result := .next (testBit .b3 (.reg .l) s)

/-- `BIT 3,A` (R203). -/
def exec_bit_3_a (s : State) : Result := .next (testBit .b3 (.reg .a) s)

/-- `BIT 3,(HL)` (R203). -/
def exec_bit_3_mhl (s : State) : Result := .next (testBit .b3 .mhl s)

/-- `BIT 4,B` (R203). -/
def exec_bit_4_b (s : State) : Result := .next (testBit .b4 (.reg .b) s)

/-- `BIT 4,C` (R203). -/
def exec_bit_4_c (s : State) : Result := .next (testBit .b4 (.reg .c) s)

/-- `BIT 4,D` (R203). -/
def exec_bit_4_d (s : State) : Result := .next (testBit .b4 (.reg .d) s)

/-- `BIT 4,E` (R203). -/
def exec_bit_4_e (s : State) : Result := .next (testBit .b4 (.reg .e) s)

/-- `BIT 4,H` (R203). -/
def exec_bit_4_h (s : State) : Result := .next (testBit .b4 (.reg .h) s)

/-- `BIT 4,L` (R203). -/
def exec_bit_4_l (s : State) : Result := .next (testBit .b4 (.reg .l) s)

/-- `BIT 4,A` (R203). -/
def exec_bit_4_a (s : State) : Result := .next (testBit .b4 (.reg .a) s)

/-- `BIT 4,(HL)` (R203). -/
def exec_bit_4_mhl (s : State) : Result := .next (testBit .b4 .mhl s)

/-- `BIT 5,B` (R203). -/
def exec_bit_5_b (s : State) : Result := .next (testBit .b5 (.reg .b) s)

/-- `BIT 5,C` (R203). -/
def exec_bit_5_c (s : State) : Result := .next (testBit .b5 (.reg .c) s)

/-- `BIT 5,D` (R203). -/
def exec_bit_5_d (s : State) : Result := .next (testBit .b5 (.reg .d) s)

/-- `BIT 5,E` (R203). -/
def exec_bit_5_e (s : State) : Result := .next (testBit .b5 (.reg .e) s)

/-- `BIT 5,H` (R203). -/
def exec_bit_5_h (s : State) : Result := .next (testBit .b5 (.reg .h) s)

/-- `BIT 5,L` (R203). -/
def exec_bit_5_l (s : State) : Result := .next (testBit .b5 (.reg .l) s)

/-- `BIT 5,A` (R203). -/
def exec_bit_5_a (s : State) : Result := .next (testBit .b5 (.reg .a) s)

/-- `BIT 5,(HL)` (R203). -/
def exec_bit_5_mhl (s : State) : Result := .next (testBit .b5 .mhl s)

/-- `BIT 6,B` (R203). -/
def exec_bit_6_b (s : State) : Result := .next (testBit .b6 (.reg .b) s)

/-- `BIT 6,C` (R203). -/
def exec_bit_6_c (s : State) : Result := .next (testBit .b6 (.reg .c) s)

/-- `BIT 6,D` (R203). -/
def exec_bit_6_d (s : State) : Result := .next (testBit .b6 (.reg .d) s)

/-- `BIT 6,E` (R203). -/
def exec_bit_6_e (s : State) : Result := .next (testBit .b6 (.reg .e) s)

/-- `BIT 6,H` (R203). -/
def exec_bit_6_h (s : State) : Result := .next (testBit .b6 (.reg .h) s)

/-- `BIT 6,L` (R203). -/
def exec_bit_6_l (s : State) : Result := .next (testBit .b6 (.reg .l) s)

/-- `BIT 6,A` (R203). -/
def exec_bit_6_a (s : State) : Result := .next (testBit .b6 (.reg .a) s)

/-- `BIT 6,(HL)` (R203). -/
def exec_bit_6_mhl (s : State) : Result := .next (testBit .b6 .mhl s)

/-- `BIT 7,B` (R203). -/
def exec_bit_7_b (s : State) : Result := .next (testBit .b7 (.reg .b) s)

/-- `BIT 7,C` (R203). -/
def exec_bit_7_c (s : State) : Result := .next (testBit .b7 (.reg .c) s)

/-- `BIT 7,D` (R203). -/
def exec_bit_7_d (s : State) : Result := .next (testBit .b7 (.reg .d) s)

/-- `BIT 7,E` (R203). -/
def exec_bit_7_e (s : State) : Result := .next (testBit .b7 (.reg .e) s)

/-- `BIT 7,H` (R203). -/
def exec_bit_7_h (s : State) : Result := .next (testBit .b7 (.reg .h) s)

/-- `BIT 7,L` (R203). -/
def exec_bit_7_l (s : State) : Result := .next (testBit .b7 (.reg .l) s)

/-- `BIT 7,A` (R203). -/
def exec_bit_7_a (s : State) : Result := .next (testBit .b7 (.reg .a) s)

/-- `BIT 7,(HL)` (R203). -/
def exec_bit_7_mhl (s : State) : Result := .next (testBit .b7 .mhl s)

/-- `RES 0,B` (R204). -/
def exec_res_0_b (s : State) : Result := .next (resetBit .b0 (.reg .b) s)

/-- `RES 0,C` (R204). -/
def exec_res_0_c (s : State) : Result := .next (resetBit .b0 (.reg .c) s)

/-- `RES 0,D` (R204). -/
def exec_res_0_d (s : State) : Result := .next (resetBit .b0 (.reg .d) s)

/-- `RES 0,E` (R204). -/
def exec_res_0_e (s : State) : Result := .next (resetBit .b0 (.reg .e) s)

/-- `RES 0,H` (R204). -/
def exec_res_0_h (s : State) : Result := .next (resetBit .b0 (.reg .h) s)

/-- `RES 0,L` (R204). -/
def exec_res_0_l (s : State) : Result := .next (resetBit .b0 (.reg .l) s)

/-- `RES 0,A` (R204). -/
def exec_res_0_a (s : State) : Result := .next (resetBit .b0 (.reg .a) s)

/-- `RES 0,(HL)` (R204). -/
def exec_res_0_mhl (s : State) : Result := .next (resetBit .b0 .mhl s)

/-- `RES 1,B` (R204). -/
def exec_res_1_b (s : State) : Result := .next (resetBit .b1 (.reg .b) s)

/-- `RES 1,C` (R204). -/
def exec_res_1_c (s : State) : Result := .next (resetBit .b1 (.reg .c) s)

/-- `RES 1,D` (R204). -/
def exec_res_1_d (s : State) : Result := .next (resetBit .b1 (.reg .d) s)

/-- `RES 1,E` (R204). -/
def exec_res_1_e (s : State) : Result := .next (resetBit .b1 (.reg .e) s)

/-- `RES 1,H` (R204). -/
def exec_res_1_h (s : State) : Result := .next (resetBit .b1 (.reg .h) s)

/-- `RES 1,L` (R204). -/
def exec_res_1_l (s : State) : Result := .next (resetBit .b1 (.reg .l) s)

/-- `RES 1,A` (R204). -/
def exec_res_1_a (s : State) : Result := .next (resetBit .b1 (.reg .a) s)

/-- `RES 1,(HL)` (R204). -/
def exec_res_1_mhl (s : State) : Result := .next (resetBit .b1 .mhl s)

/-- `RES 2,B` (R204). -/
def exec_res_2_b (s : State) : Result := .next (resetBit .b2 (.reg .b) s)

/-- `RES 2,C` (R204). -/
def exec_res_2_c (s : State) : Result := .next (resetBit .b2 (.reg .c) s)

/-- `RES 2,D` (R204). -/
def exec_res_2_d (s : State) : Result := .next (resetBit .b2 (.reg .d) s)

/-- `RES 2,E` (R204). -/
def exec_res_2_e (s : State) : Result := .next (resetBit .b2 (.reg .e) s)

/-- `RES 2,H` (R204). -/
def exec_res_2_h (s : State) : Result := .next (resetBit .b2 (.reg .h) s)

/-- `RES 2,L` (R204). -/
def exec_res_2_l (s : State) : Result := .next (resetBit .b2 (.reg .l) s)

/-- `RES 2,A` (R204). -/
def exec_res_2_a (s : State) : Result := .next (resetBit .b2 (.reg .a) s)

/-- `RES 2,(HL)` (R204). -/
def exec_res_2_mhl (s : State) : Result := .next (resetBit .b2 .mhl s)

/-- `RES 3,B` (R204). -/
def exec_res_3_b (s : State) : Result := .next (resetBit .b3 (.reg .b) s)

/-- `RES 3,C` (R204). -/
def exec_res_3_c (s : State) : Result := .next (resetBit .b3 (.reg .c) s)

/-- `RES 3,D` (R204). -/
def exec_res_3_d (s : State) : Result := .next (resetBit .b3 (.reg .d) s)

/-- `RES 3,E` (R204). -/
def exec_res_3_e (s : State) : Result := .next (resetBit .b3 (.reg .e) s)

/-- `RES 3,H` (R204). -/
def exec_res_3_h (s : State) : Result := .next (resetBit .b3 (.reg .h) s)

/-- `RES 3,L` (R204). -/
def exec_res_3_l (s : State) : Result := .next (resetBit .b3 (.reg .l) s)

/-- `RES 3,A` (R204). -/
def exec_res_3_a (s : State) : Result := .next (resetBit .b3 (.reg .a) s)

/-- `RES 3,(HL)` (R204). -/
def exec_res_3_mhl (s : State) : Result := .next (resetBit .b3 .mhl s)

/-- `RES 4,B` (R204). -/
def exec_res_4_b (s : State) : Result := .next (resetBit .b4 (.reg .b) s)

/-- `RES 4,C` (R204). -/
def exec_res_4_c (s : State) : Result := .next (resetBit .b4 (.reg .c) s)

/-- `RES 4,D` (R204). -/
def exec_res_4_d (s : State) : Result := .next (resetBit .b4 (.reg .d) s)

/-- `RES 4,E` (R204). -/
def exec_res_4_e (s : State) : Result := .next (resetBit .b4 (.reg .e) s)

/-- `RES 4,H` (R204). -/
def exec_res_4_h (s : State) : Result := .next (resetBit .b4 (.reg .h) s)

/-- `RES 4,L` (R204). -/
def exec_res_4_l (s : State) : Result := .next (resetBit .b4 (.reg .l) s)

/-- `RES 4,A` (R204). -/
def exec_res_4_a (s : State) : Result := .next (resetBit .b4 (.reg .a) s)

/-- `RES 4,(HL)` (R204). -/
def exec_res_4_mhl (s : State) : Result := .next (resetBit .b4 .mhl s)

/-- `RES 5,B` (R204). -/
def exec_res_5_b (s : State) : Result := .next (resetBit .b5 (.reg .b) s)

/-- `RES 5,C` (R204). -/
def exec_res_5_c (s : State) : Result := .next (resetBit .b5 (.reg .c) s)

/-- `RES 5,D` (R204). -/
def exec_res_5_d (s : State) : Result := .next (resetBit .b5 (.reg .d) s)

/-- `RES 5,E` (R204). -/
def exec_res_5_e (s : State) : Result := .next (resetBit .b5 (.reg .e) s)

/-- `RES 5,H` (R204). -/
def exec_res_5_h (s : State) : Result := .next (resetBit .b5 (.reg .h) s)

/-- `RES 5,L` (R204). -/
def exec_res_5_l (s : State) : Result := .next (resetBit .b5 (.reg .l) s)

/-- `RES 5,A` (R204). -/
def exec_res_5_a (s : State) : Result := .next (resetBit .b5 (.reg .a) s)

/-- `RES 5,(HL)` (R204). -/
def exec_res_5_mhl (s : State) : Result := .next (resetBit .b5 .mhl s)

/-- `RES 6,B` (R204). -/
def exec_res_6_b (s : State) : Result := .next (resetBit .b6 (.reg .b) s)

/-- `RES 6,C` (R204). -/
def exec_res_6_c (s : State) : Result := .next (resetBit .b6 (.reg .c) s)

/-- `RES 6,D` (R204). -/
def exec_res_6_d (s : State) : Result := .next (resetBit .b6 (.reg .d) s)

/-- `RES 6,E` (R204). -/
def exec_res_6_e (s : State) : Result := .next (resetBit .b6 (.reg .e) s)

/-- `RES 6,H` (R204). -/
def exec_res_6_h (s : State) : Result := .next (resetBit .b6 (.reg .h) s)

/-- `RES 6,L` (R204). -/
def exec_res_6_l (s : State) : Result := .next (resetBit .b6 (.reg .l) s)

/-- `RES 6,A` (R204). -/
def exec_res_6_a (s : State) : Result := .next (resetBit .b6 (.reg .a) s)

/-- `RES 6,(HL)` (R204). -/
def exec_res_6_mhl (s : State) : Result := .next (resetBit .b6 .mhl s)

/-- `RES 7,B` (R204). -/
def exec_res_7_b (s : State) : Result := .next (resetBit .b7 (.reg .b) s)

/-- `RES 7,C` (R204). -/
def exec_res_7_c (s : State) : Result := .next (resetBit .b7 (.reg .c) s)

/-- `RES 7,D` (R204). -/
def exec_res_7_d (s : State) : Result := .next (resetBit .b7 (.reg .d) s)

/-- `RES 7,E` (R204). -/
def exec_res_7_e (s : State) : Result := .next (resetBit .b7 (.reg .e) s)

/-- `RES 7,H` (R204). -/
def exec_res_7_h (s : State) : Result := .next (resetBit .b7 (.reg .h) s)

/-- `RES 7,L` (R204). -/
def exec_res_7_l (s : State) : Result := .next (resetBit .b7 (.reg .l) s)

/-- `RES 7,A` (R204). -/
def exec_res_7_a (s : State) : Result := .next (resetBit .b7 (.reg .a) s)

/-- `RES 7,(HL)` (R204). -/
def exec_res_7_mhl (s : State) : Result := .next (resetBit .b7 .mhl s)

/-- `SET 0,B` (R205). -/
def exec_set_0_b (s : State) : Result := .next (setBit .b0 (.reg .b) s)

/-- `SET 0,C` (R205). -/
def exec_set_0_c (s : State) : Result := .next (setBit .b0 (.reg .c) s)

/-- `SET 0,D` (R205). -/
def exec_set_0_d (s : State) : Result := .next (setBit .b0 (.reg .d) s)

/-- `SET 0,E` (R205). -/
def exec_set_0_e (s : State) : Result := .next (setBit .b0 (.reg .e) s)

/-- `SET 0,H` (R205). -/
def exec_set_0_h (s : State) : Result := .next (setBit .b0 (.reg .h) s)

/-- `SET 0,L` (R205). -/
def exec_set_0_l (s : State) : Result := .next (setBit .b0 (.reg .l) s)

/-- `SET 0,A` (R205). -/
def exec_set_0_a (s : State) : Result := .next (setBit .b0 (.reg .a) s)

/-- `SET 0,(HL)` (R205). -/
def exec_set_0_mhl (s : State) : Result := .next (setBit .b0 .mhl s)

/-- `SET 1,B` (R205). -/
def exec_set_1_b (s : State) : Result := .next (setBit .b1 (.reg .b) s)

/-- `SET 1,C` (R205). -/
def exec_set_1_c (s : State) : Result := .next (setBit .b1 (.reg .c) s)

/-- `SET 1,D` (R205). -/
def exec_set_1_d (s : State) : Result := .next (setBit .b1 (.reg .d) s)

/-- `SET 1,E` (R205). -/
def exec_set_1_e (s : State) : Result := .next (setBit .b1 (.reg .e) s)

/-- `SET 1,H` (R205). -/
def exec_set_1_h (s : State) : Result := .next (setBit .b1 (.reg .h) s)

/-- `SET 1,L` (R205). -/
def exec_set_1_l (s : State) : Result := .next (setBit .b1 (.reg .l) s)

/-- `SET 1,A` (R205). -/
def exec_set_1_a (s : State) : Result := .next (setBit .b1 (.reg .a) s)

/-- `SET 1,(HL)` (R205). -/
def exec_set_1_mhl (s : State) : Result := .next (setBit .b1 .mhl s)

/-- `SET 2,B` (R205). -/
def exec_set_2_b (s : State) : Result := .next (setBit .b2 (.reg .b) s)

/-- `SET 2,C` (R205). -/
def exec_set_2_c (s : State) : Result := .next (setBit .b2 (.reg .c) s)

/-- `SET 2,D` (R205). -/
def exec_set_2_d (s : State) : Result := .next (setBit .b2 (.reg .d) s)

/-- `SET 2,E` (R205). -/
def exec_set_2_e (s : State) : Result := .next (setBit .b2 (.reg .e) s)

/-- `SET 2,H` (R205). -/
def exec_set_2_h (s : State) : Result := .next (setBit .b2 (.reg .h) s)

/-- `SET 2,L` (R205). -/
def exec_set_2_l (s : State) : Result := .next (setBit .b2 (.reg .l) s)

/-- `SET 2,A` (R205). -/
def exec_set_2_a (s : State) : Result := .next (setBit .b2 (.reg .a) s)

/-- `SET 2,(HL)` (R205). -/
def exec_set_2_mhl (s : State) : Result := .next (setBit .b2 .mhl s)

/-- `SET 3,B` (R205). -/
def exec_set_3_b (s : State) : Result := .next (setBit .b3 (.reg .b) s)

/-- `SET 3,C` (R205). -/
def exec_set_3_c (s : State) : Result := .next (setBit .b3 (.reg .c) s)

/-- `SET 3,D` (R205). -/
def exec_set_3_d (s : State) : Result := .next (setBit .b3 (.reg .d) s)

/-- `SET 3,E` (R205). -/
def exec_set_3_e (s : State) : Result := .next (setBit .b3 (.reg .e) s)

/-- `SET 3,H` (R205). -/
def exec_set_3_h (s : State) : Result := .next (setBit .b3 (.reg .h) s)

/-- `SET 3,L` (R205). -/
def exec_set_3_l (s : State) : Result := .next (setBit .b3 (.reg .l) s)

/-- `SET 3,A` (R205). -/
def exec_set_3_a (s : State) : Result := .next (setBit .b3 (.reg .a) s)

/-- `SET 3,(HL)` (R205). -/
def exec_set_3_mhl (s : State) : Result := .next (setBit .b3 .mhl s)

/-- `SET 4,B` (R205). -/
def exec_set_4_b (s : State) : Result := .next (setBit .b4 (.reg .b) s)

/-- `SET 4,C` (R205). -/
def exec_set_4_c (s : State) : Result := .next (setBit .b4 (.reg .c) s)

/-- `SET 4,D` (R205). -/
def exec_set_4_d (s : State) : Result := .next (setBit .b4 (.reg .d) s)

/-- `SET 4,E` (R205). -/
def exec_set_4_e (s : State) : Result := .next (setBit .b4 (.reg .e) s)

/-- `SET 4,H` (R205). -/
def exec_set_4_h (s : State) : Result := .next (setBit .b4 (.reg .h) s)

/-- `SET 4,L` (R205). -/
def exec_set_4_l (s : State) : Result := .next (setBit .b4 (.reg .l) s)

/-- `SET 4,A` (R205). -/
def exec_set_4_a (s : State) : Result := .next (setBit .b4 (.reg .a) s)

/-- `SET 4,(HL)` (R205). -/
def exec_set_4_mhl (s : State) : Result := .next (setBit .b4 .mhl s)

/-- `SET 5,B` (R205). -/
def exec_set_5_b (s : State) : Result := .next (setBit .b5 (.reg .b) s)

/-- `SET 5,C` (R205). -/
def exec_set_5_c (s : State) : Result := .next (setBit .b5 (.reg .c) s)

/-- `SET 5,D` (R205). -/
def exec_set_5_d (s : State) : Result := .next (setBit .b5 (.reg .d) s)

/-- `SET 5,E` (R205). -/
def exec_set_5_e (s : State) : Result := .next (setBit .b5 (.reg .e) s)

/-- `SET 5,H` (R205). -/
def exec_set_5_h (s : State) : Result := .next (setBit .b5 (.reg .h) s)

/-- `SET 5,L` (R205). -/
def exec_set_5_l (s : State) : Result := .next (setBit .b5 (.reg .l) s)

/-- `SET 5,A` (R205). -/
def exec_set_5_a (s : State) : Result := .next (setBit .b5 (.reg .a) s)

/-- `SET 5,(HL)` (R205). -/
def exec_set_5_mhl (s : State) : Result := .next (setBit .b5 .mhl s)

/-- `SET 6,B` (R205). -/
def exec_set_6_b (s : State) : Result := .next (setBit .b6 (.reg .b) s)

/-- `SET 6,C` (R205). -/
def exec_set_6_c (s : State) : Result := .next (setBit .b6 (.reg .c) s)

/-- `SET 6,D` (R205). -/
def exec_set_6_d (s : State) : Result := .next (setBit .b6 (.reg .d) s)

/-- `SET 6,E` (R205). -/
def exec_set_6_e (s : State) : Result := .next (setBit .b6 (.reg .e) s)

/-- `SET 6,H` (R205). -/
def exec_set_6_h (s : State) : Result := .next (setBit .b6 (.reg .h) s)

/-- `SET 6,L` (R205). -/
def exec_set_6_l (s : State) : Result := .next (setBit .b6 (.reg .l) s)

/-- `SET 6,A` (R205). -/
def exec_set_6_a (s : State) : Result := .next (setBit .b6 (.reg .a) s)

/-- `SET 6,(HL)` (R205). -/
def exec_set_6_mhl (s : State) : Result := .next (setBit .b6 .mhl s)

/-- `SET 7,B` (R205). -/
def exec_set_7_b (s : State) : Result := .next (setBit .b7 (.reg .b) s)

/-- `SET 7,C` (R205). -/
def exec_set_7_c (s : State) : Result := .next (setBit .b7 (.reg .c) s)

/-- `SET 7,D` (R205). -/
def exec_set_7_d (s : State) : Result := .next (setBit .b7 (.reg .d) s)

/-- `SET 7,E` (R205). -/
def exec_set_7_e (s : State) : Result := .next (setBit .b7 (.reg .e) s)

/-- `SET 7,H` (R205). -/
def exec_set_7_h (s : State) : Result := .next (setBit .b7 (.reg .h) s)

/-- `SET 7,L` (R205). -/
def exec_set_7_l (s : State) : Result := .next (setBit .b7 (.reg .l) s)

/-- `SET 7,A` (R205). -/
def exec_set_7_a (s : State) : Result := .next (setBit .b7 (.reg .a) s)

/-- `SET 7,(HL)` (R205). -/
def exec_set_7_mhl (s : State) : Result := .next (setBit .b7 .mhl s)

end Sys2Proof.Machine
end

