-- ==== Sys2Proof/Machine/System.lean ====
section
/-! DEFINITION. The system instructions and the unmapped opcodes (46_system.md R240 to R246). -/

namespace Sys2Proof.Machine

/-- HALT (R241): case 1 and case 2 enter `Halted`; case 3 follows the parameter HALT_IME0_PENDING. -/
def haltCpu (s : State) : Result :=
  if s.ime ∨ pending s = 0 then .next ({ s with mode := .halted }.took 4)
  else
    match s.cfg.haltPolicy with
    | .refuse => .refused .haltIme0Pending
    | .fallthrough => .next (s.took 4)
    | .bug => .next ({ s with haltBug := true }.took 4)

/-- STOP, its second byte already fetched and ignored (R242). -/
def stopCpu (s : State) : State :=
  { s with timer := { s.timer with sysclk := 0 }, mode := .stopped }.took 4

/-- `NOP` (R240). -/
def exec_nop (s : State) : Result := .next (s.took 4)

/-- `HALT` (R241). -/
def exec_halt (s : State) : Result := haltCpu s

/-- `STOP` (R242). -/
def exec_stop (_n : Byte) (s : State) : Result := .next (stopCpu s)

/-- `DI` (R243). -/
def exec_di (s : State) : Result := .next ({ s with ime := false, eiPending := false }.took 4)

/-- `EI` (R244). -/
def exec_ei (s : State) : Result := .next ({ s with eiPending := true }.took 4)

/-- `UNMAPPED` (R246): the fetch has left PC one past the byte, with `halt_bug` set too (`afterOpcode`), so `PC - 1` is the address
it was fetched from. -/
def exec_unmapped (op : Byte) (s : State) : Result := .next (raiseUnmapped op (s.pc - 1) s)

end Sys2Proof.Machine
end

