-- ==== Sys2Proof/Machine/Scheduler.lean ====
section
/-! DEFINITION. The scheduler: what follows the CPU's part of a step, and the halted and stopped steps (60_exceptions.md R261,
R310 to R312). -/

namespace Sys2Proof.Machine

/-- `Timer.step(c); PPU.step(c); Input.step(c); Audio.step(c)` (60_exceptions.md R310); `Audio.step` changes no state of the
block (20_memory.md R60). -/
def advancePeripherals (c : Nat) (s : State) : State := inputStep c (ppuStep c (timerStep c s))

/-- The rest of a step after its CPU part: in `Faulted` nothing advances; otherwise the peripherals advance by the count the CPU
step reported, and the host may complete a serial transfer before the next step (60_exceptions.md R303, R310; assumption 13). -/
def afterCpu (s : State) : State :=
  if s.mode = .faulted then s else serialMove (advancePeripherals s.cycles s)

/-- The rest of a step after an instruction: the peripherals advance where it gave a next state. -/
def finishStep (r : Result) : Result :=
  match r with
  | .next t => .next (afterCpu t)
  | .fault e => .fault e
  | .refused e => .refused e

/-- The halted step: 4 cycles, no change in the CPU (60_exceptions.md R261). -/
def haltedStep (s : State) : State := afterCpu (s.took 4)

/-- A step in mode `Stopped`: nothing advances; the host may make its moves `Wake` and `SerialComplete` (46_system.md R242,
60_exceptions.md R303, R311; assumption 14). -/
def stoppedStep (s : State) : State := serialMove (wakeMove s)

end Sys2Proof.Machine
end

