-- ==== Sys2Proof/Machine/Step.lean ====
section
/-! DEFINITION. One step of the machine (60_exceptions.md R260, R310). -/

namespace Sys2Proof.Machine

/-- Fetch and execute one instruction, then let the peripherals advance (60_exceptions.md R260, R310). -/
def runInstr (s : State) : Host.Outcome State Fault Refusal := finishStep (exec (fetch s).1 (fetch s).2)

/-- `Step()` (60_exceptions.md R310): no step is defined from `Faulted` (R250); in `Stopped` only the host moves. -/
def step (s : State) : Host.Outcome State Fault Refusal :=
  match s.mode with
  | .faulted => .fault .faulted
  | .stopped => .next (stoppedStep s)
  | .running | .halted =>
    match cpuPlan s with
    | .idle => .next (haltedStep s)
    | .dispatch k t => .next (afterCpu (dispatchInterrupt k t))
    | .execute t => runInstr t

/-- `s` with an instruction of the opcode table placed at PC, where the next step fetches: in ROM this stands for loading another
cartridge image (assumption 8). -/
def State.withFetchWord (s : State) (nbits w : Nat) : State := placeBytes s.pc (tableBytes nbits w) s

end Sys2Proof.Machine
end

