-- ==== Sys2Proof/Machine/Loader.lean ====
section
/-! DEFINITION. Building a configuration from raw images, and the load-time refusals that keep a session from starting
(20_memory.md R49, R71, R72, R76, R77; 60_exceptions.md R252, R253). -/

namespace Sys2Proof.Machine

/-- A byte of the cartridge header (20_memory.md R77). -/
def headerByte (rom : List Byte) (k : Nat) : Nat := (rom.getD k 0).toNat

/-- The mapper type of header byte 0x0147 (20_memory.md R76, R77). -/
def mapperOfCode (n : Nat) : Option MapperType :=
  match n with
  | 0x00 => some .none
  | 0x01 => some .mbc1
  | 0x02 => some .mbc1
  | 0x03 => some .mbc1
  | _ => none

/-- `CART.rom_banks` of header byte 0x0148 (20_memory.md R77). -/
def romBanksOfCode (n : Nat) : Option Nat := if n ≤ 8 then some (2 * 2 ^ n) else none

/-- `CART.ram_banks` of header byte 0x0149 (20_memory.md R77). -/
def ramBanksOfCode (n : Nat) : Option Nat :=
  match n with
  | 0x00 => some 0
  | 0x02 => some 1
  | 0x03 => some 4
  | 0x04 => some 16
  | 0x05 => some 8
  | _ => none

/-- What each mapper requires of the bank counts (20_memory.md R71, R72). -/
def mapperAllows (m : MapperType) (romBanks ramBanks : Nat) : Bool :=
  match m with
  | .none => romBanks == 2 && decide (ramBanks ≤ 1)
  | .mbc1 => [2, 4, 8, 16, 32, 64, 128].contains romBanks && [0, 1, 4].contains ramBanks

/-- The configuration meets every load-time check (60_exceptions.md R252) and the ranges of 00_scope.md R6. -/
def configValid (cfg : Config) : Bool :=
  mapperAllows cfg.cart.mapper cfg.cart.romBanks cfg.cart.ramBanks &&
    Memory.wf (16384 * cfg.cart.romBanks) cfg.cart.rom &&
    Memory.wf (8192 * cfg.cart.ramBanks) cfg.cart.ramInit &&
    (match cfg.boot with
     | none => true
     | some boot => Memory.wf 256 boot) &&
    decide (cfg.inputPollPeriod > 0)

/-- Build the cartridge from a ROM image and the battery RAM (20_memory.md R77).  A header code the spec gives no meaning, and bank
counts the mapper does not allow, are `malformed-image` (assumption 20). -/
def loadCartridge (rom ram : List Byte) : Except ErrorKind Cartridge :=
  match mapperOfCode (headerByte rom 0x0147), romBanksOfCode (headerByte rom 0x0148), ramBanksOfCode (headerByte rom 0x0149) with
  | none, _, _ => .error .unsupportedMapper
  | some m, some romBanks, some ramBanks =>
    if mapperAllows m romBanks ramBanks ∧ rom.length = 16384 * romBanks ∧ ram.length = 8192 * ramBanks then
      .ok { rom := Memory.ofBytes 0 rom, romBanks := romBanks, mapper := m, ramBanks := ramBanks,
            ramInit := Memory.ofBytes 0 ram }
    else .error .malformedImage
  | some _, _, _ => .error .malformedImage

/-- The boot image: absent, or exactly 256 bytes (20_memory.md R49). -/
def loadBoot (boot : Option (List Byte)) : Except ErrorKind (Option Memory) :=
  match boot with
  | none => .ok none
  | some bs => if bs.length = 256 then .ok (some (Memory.ofBytes 0 bs)) else .error .malformedImage

/-- Start a session from raw images: the state after reset, or the error kind that keeps it from starting (60_exceptions.md R252,
70_reset_and_hazards.md R320 to R322). -/
def startSession (rom ram : List Byte) (boot : Option (List Byte)) (policy : HaltPolicy) (pollPeriod : Nat) :
    Except ErrorKind State :=
  match loadCartridge rom ram, loadBoot boot with
  | .ok cart, .ok b => .ok (State.resetWith { cart := cart, boot := b, haltPolicy := policy, inputPollPeriod := pollPeriod })
  | .error e, _ => .error e
  | _, .error e => .error e

end Sys2Proof.Machine
end

