-- ==== Sys2Proof/Safety.lean ====
section
/-! DEFINITION. What counts as a safe state and a safe run, and the reach of a store, in the terms the claims use. -/

namespace Sys2Proof.Machine

/-- The invariant: every memory is canonical and inside its size, every count is inside the range the spec gives it, and what the
spec ties together agrees. -/
structure State.Inv (s : State) : Prop where
  /-- The configuration passes the load-time checks (60_exceptions.md R252). -/
  cfgValid : configValid s.cfg = true
  /-- The overlay is active only with a boot image (10_state.md R31, R32). -/
  bootImage : s.bootActive = true → s.cfg.boot.isSome = true
  vramWf : Memory.wf 8192 s.vram = true
  wramWf : Memory.wf 8192 s.wram = true
  oamWf : Memory.wf 160 s.oam = true
  hramWf : Memory.wf 127 s.hram = true
  cartRamWf : Memory.wf (8192 * s.cfg.cart.ramBanks) s.cartRam = true
  /-- `bank1` is never 0 (20_memory.md R72). -/
  bank1 : s.mapper.bank1 ≠ 0
  /-- `tima_sub` is below 1024 (10_state.md R24). -/
  sub : s.timer.sub < 1024
  /-- LY is 0 to 153, `dot` 0 to 455, `m3len` in [172, 289] (10_state.md R25, 60_exceptions.md R289). -/
  ly : s.ppu.ly < 154
  dot : s.ppu.dot < 456
  m3low : 172 ≤ s.ppu.m3len
  m3high : s.ppu.m3len ≤ 289
  /-- While the LCD is off the line machine stands at the start (60_exceptions.md R281). -/
  lcdOff : lcdOn s.ppu = false → s.ppu.ly = 0 ∧ s.ppu.dot = 0 ∧ s.ppu.mode = .hblank
  /-- While it is on the mode is a function of the position (60_exceptions.md R283). -/
  lcdMode : lcdOn s.ppu = true → s.ppu.mode = ppuModeAt s.ppu.ly s.ppu.dot s.ppu.m3len
  /-- `input_timer` is below the period (10_state.md R28). -/
  inputTimer : s.joypad.inputTimer < s.cfg.inputPollPeriod
  /-- `halt_bug` is 0 unless the parameter is `bug` (10_state.md R21). -/
  haltBug : s.haltBug = true → s.cfg.haltPolicy = .bug

/-- The address's byte is plain storage: video RAM, work RAM and its echo, OAM, high RAM (20_memory.md R42, R43). -/
def plainRam (a : Word) : Bool :=
  let n := a.toNat
  decide (0x8000 ≤ n ∧ n ≤ 0x9FFF) || decide (0xC000 ≤ n ∧ n ≤ 0xFE9F) || decide (0xFF80 ≤ n ∧ n ≤ 0xFFFE)

/-- The cell behind an address: the echo is the work RAM 0x2000 below it (20_memory.md R53). -/
def storageCell (a : Word) : Nat :=
  if 0xE000 ≤ a.toNat ∧ a.toNat ≤ 0xFDFF then a.toNat - 0x2000 else a.toNat

/-- Whether a store to `a` can change what a read of `b` shows: the complete list of 20_memory.md R48, by addresses.  A store below
0x8000 reaches the banked regions through the mapper (R70, R73 to R75); LCDC reaches LY and STAT (60_exceptions.md R281); LYC reaches
STAT bit 2 (R287); the DMA register reaches OAM (R58); the boot-disable register reaches the overlay (R59); a store to LY, to a
sound register, to 0xFEA0 to 0xFEFF or to an unmapped I/O address reaches nothing (R55, R56, R60, R61). -/
def storeReaches (a b : Word) : Bool :=
  let x := a.toNat
  let y := b.toNat
  if x ≤ 0x7FFF then decide (y ≤ 0x7FFF ∨ (0xA000 ≤ y ∧ y ≤ 0xBFFF))
  else if 0xFEA0 ≤ x ∧ x ≤ 0xFEFF then false
  else if 0xFF10 ≤ x ∧ x ≤ 0xFF3F then false
  else if x = 0xFF40 then decide (y = 0xFF40 ∨ y = 0xFF41 ∨ y = 0xFF44)
  else if x = 0xFF44 then false
  else if x = 0xFF45 then decide (y = 0xFF41 ∨ y = 0xFF45)
  else if x = 0xFF46 then decide (y = 0xFF46 ∨ (0xFE00 ≤ y ∧ y ≤ 0xFE9F))
  else if x = 0xFF50 then decide (y ≤ 0x00FF)
  else if (0xFF4C ≤ x ∧ x ≤ 0xFF7F) ∨ x = 0xFF03 ∨ (0xFF08 ≤ x ∧ x ≤ 0xFF0E) then false
  else decide (storageCell b = storageCell a)

/-- The two bytes a push stores to: the old SP - 1 and SP - 2 (10_state.md R18). -/
def stackTargets (s : State) : List Word := [s.sp - 2 + 1, s.sp - 2]

/-- The addresses an instruction stores to, from the state its meaning starts in: those the meaning itself writes (20_memory.md
R47).  Every instruction that is not listed stores nothing; a `BIT` of `(HL)` only reads (44_rotate_shift_bit.md R203). -/
def storeTargets (i : Instr) (s : State) : List Word :=
  match i with
  | .ld_mhl_b | .ld_mhl_c | .ld_mhl_d | .ld_mhl_e | .ld_mhl_h | .ld_mhl_l | .ld_mhl_a | .ld_mhl_n _ | .ld_mhli_a
    | .ld_mhld_a | .inc_mhl | .dec_mhl | .rlc_mhl | .rrc_mhl | .rl_mhl | .rr_mhl | .sla_mhl | .sra_mhl | .swap_mhl
    | .srl_mhl | .res_0_mhl | .res_1_mhl | .res_2_mhl | .res_3_mhl | .res_4_mhl | .res_5_mhl | .res_6_mhl | .res_7_mhl
    | .set_0_mhl | .set_1_mhl | .set_2_mhl | .set_3_mhl | .set_4_mhl | .set_5_mhl | .set_6_mhl | .set_7_mhl => [s.hl]
  | .ld_mbc_a => [s.bc]
  | .ld_mde_a => [s.de]
  | .ld_mnn_a nn => [nn]
  | .ld_mnn_sp nn => [nn, nn + 1]
  | .ldh_mc_a => [highPage s.c]
  | .ldh_mn_a n => [highPage n]
  | .push_bc | .push_de | .push_hl | .push_af | .call_nn _ | .rst_00h | .rst_08h | .rst_10h | .rst_18h | .rst_20h
    | .rst_28h | .rst_30h | .rst_38h => stackTargets s
  | .call_nz_nn _ => if condHolds .nz s then stackTargets s else []
  | .call_z_nn _ => if condHolds .z s then stackTargets s else []
  | .call_nc_nn _ => if condHolds .nc s then stackTargets s else []
  | .call_c_nn _ => if condHolds .c s then stackTargets s else []
  | .prefix_cb => if (readByte s s.pc).toNat % 8 = 6 ∧ (readByte s s.pc).toNat / 64 ≠ 1 then [s.hl] else []
  | _ => []

/-- Two packed decimal digits (42_alu8.md R163). -/
def isBcd (v : Byte) : Prop := v.toNat / 16 ≤ 9 ∧ v.toNat % 16 ≤ 9

/-- The number two packed decimal digits stand for. -/
def bcdValue (v : Byte) : Nat := v.toNat / 16 * 10 + v.toNat % 16

/-- The position in the frame, in ticks from line 0, dot 0 (60_exceptions.md R282, R290). -/
def framePosition (p : Ppu) : Nat := p.ly * 456 + p.dot

/-- The reads at `a`, `a + 1`, ... from state `s` on give the bytes of the list: each read is counted, so the draws of 20_memory.md
R55 and R60 are told apart (assumption 2). -/
def readsBytes (s : State) (a : Word) (bs : List Byte) : Prop :=
  match bs with
  | [] => True
  | b :: rest => readByte s a = b ∧ readsBytes s.countRead (a + 1) rest

/-- A run is safe so far when the machine answers a next state that has not faulted. -/
def safeStep (s : State) : Prop := ∃ t, step s = .next t ∧ t.mode ≠ .faulted

end Sys2Proof.Machine
end

