-- ==== Sys2Proof/Certificates/Slice0/Obligations.lean ====
section
/-! DEFINITION. The statements for the provers.  Where a statement rests on a choice of the model, its docstring names the entry of the
assumption log. -/

section Statements

open Sys2Proof Sys2Proof.Machine

/-! ## Encoding -/

/-- Words written out from the encodings of 30_encoding.md to 46_system.md decode to the instruction they stand for. -/
def Obligations.SampleWordsDecode : Prop :=
  decode [0x78] = .ok .ld_a_b [] ∧
  decode [0x3E, 0x42] = .ok (.ld_a_n 0x42) [] ∧
  decode [0x76] = .ok .halt [] ∧
  decode [0x21, 0x34, 0x12] = .ok (.ld_hl_nn 0x1234) [] ∧
  decode [0x08, 0x00, 0xC1] = .ok (.ld_mnn_sp 0xC100) [] ∧
  decode [0xF5] = .ok .push_af [] ∧
  decode [0xFE, 0x40] = .ok (.cp_n 0x40) [] ∧
  decode [0x27] = .ok .daa [] ∧
  decode [0xE8, 0xFE] = .ok (.add_sp_e 0xFE) [] ∧
  decode [0x17] = .ok .rla [] ∧
  decode [0xCB, 0x7C] = .ok .bit_7_h [] ∧
  decode [0xCB, 0x36] = .ok .swap_mhl [] ∧
  decode [0xCB, 0xCB] = .ok .set_1_e [] ∧
  decode [0xDC, 0x00, 0x30] = .ok (.call_c_nn 0x3000) [] ∧
  decode [0xEF] = .ok .rst_28h [] ∧
  decode [0x10, 0x00] = .ok (.stop 0x00) [] ∧
  decode [0xFB] = .ok .ei [] ∧
  decode [0xD3] = .ok (.unmapped 0xD3) []

/-- Decode and encode agree: every well-formed instruction, with every operand, comes back from its own bytes, whatever follows them
(30_encoding.md R90 to R104). -/
def Obligations.DecodeOfEncode : Prop :=
  ∀ (i : Instr) (rest : List Byte), WellFormed i = true → decode (encode i ++ rest) = .ok i rest

/-- Encode and decode agree: what the decoder reads is well formed and its bytes are the bytes that were read, so no bit of an encoding
is dropped and no two instructions share one (30_encoding.md R98 to R104). -/
def Obligations.EncodeOfDecode : Prop :=
  ∀ (bs rest : List Byte) (i : Instr), decode bs = .ok i rest → WellFormed i = true ∧ encode i ++ rest = bs

/-! ## The step -/

/-- A step runs the decoded instruction (60_exceptions.md R260, R310): where the reads at PC give the bytes of one whole instruction
and no interrupt is dispatched, the step is that instruction's meaning, with PC past its bytes and a pending `EI` taken effect, and
then the rest of the step.  The read counter is the model's (assumption 2). -/
def Obligations.StepRunsDecodedInstruction : Prop :=
  ∀ (s : State) (i : Instr) (bs : List Byte),
    readsBytes s s.pc bs → decode bs = .ok i [] →
    (s.mode = .running ∨ (s.mode = .halted ∧ pending s ≠ 0)) → ¬(s.ime = true ∧ pending s ≠ 0) → s.haltBug = false →
    step s = finishStep (exec i
      { s with mode := .running, ime := s.ime || s.eiPending, eiPending := false,
               pc := s.pc + BitVec.ofNat 16 bs.length, free := { s.free with reads := s.free.reads + bs.length } }) ∧
    (∀ t, finishStep (.next t) = .next (afterCpu t))

/-- With `halt_bug` set the opcode fetch leaves PC and clears it, so the byte at PC is read twice (46_system.md R241).  An unmapped byte
takes its exception, which sets PC one past the byte (60_exceptions.md R250; assumption 16). -/
def Obligations.HaltBugRepeatsOneByte : Prop :=
  ∀ (s : State) (i : Instr) (op : Byte) (more : List Byte),
    readByte s s.pc = op → readsBytes s.countRead s.pc more → decode (op :: more) = .ok i [] →
    (s.mode = .running ∨ (s.mode = .halted ∧ pending s ≠ 0)) → ¬(s.ime = true ∧ pending s ≠ 0) → s.haltBug = true →
    step s = finishStep (exec i
      { s with mode := .running, ime := s.ime || s.eiPending, eiPending := false, haltBug := false,
               pc := if i = .unmapped op then s.pc + 1 else s.pc + BitVec.ofNat 16 more.length,
               free := { s.free with reads := s.free.reads + (more.length + 1) } })

/-- Taking an interrupt (60_exceptions.md R262, R264): with IME set, the lowest-numbered bit pending in both IE and IF is taken.  The
step clears that IF bit, IME and `ei_pending`, pushes PC high byte first, goes to `0x0040 + 8k` and costs 20 cycles; nothing is
fetched. -/
def Obligations.StepDispatchesHighestPriority : Prop :=
  ∀ (s : State) (k : Nat),
    (s.mode = .running ∨ s.mode = .halted) → s.ime = true → k < 5 →
    s.ie.getLsbD k = true → s.iflag.getLsbD k = true →
    (∀ j, j < k → ¬(s.ie.getLsbD j = true ∧ s.iflag.getLsbD j = true)) →
    step s = .next (afterCpu
      { writeByte (s.sp - 2) (loByte s.pc) (writeByte (s.sp - 1) (hiByte s.pc)
          { s with mode := .running, iflag := s.iflag &&& ~~~BitVec.twoPow 5 k, ime := false, eiPending := false,
                   sp := s.sp - 2 }) with
        pc := BitVec.ofNat 16 (0x40 + 8 * k), cycles := 20 })

/-- The halted step (60_exceptions.md R261): with nothing pending it costs 4 cycles and changes nothing in the CPU, whatever IME holds;
the peripherals advance. -/
def Obligations.HaltedStepOnlyWaits : Prop :=
  ∀ s : State, s.mode = .halted → (∀ k, k < 5 → ¬(s.ie.getLsbD k = true ∧ s.iflag.getLsbD k = true)) →
    step s = .next (afterCpu { s with cycles := 4 })

/-- In `Stopped` nothing advances but the host's own moves (46_system.md R242, 60_exceptions.md R311, R312): the machine runs again
exactly when a button of a group that P1 selects is reported pressed, and otherwise only a serial completion can change anything.
That the model offers both moves in each such step is its choice (assumptions 13, 14). -/
def Obligations.StoppedStepWaitsForWake : Prop :=
  ∀ s : State, s.mode = .stopped →
    ∃ t, step s = .next t ∧
      t = { s with mode := t.mode, iflag := t.iflag, serial := t.serial, free := t.free } ∧
      t.mode = (if (s.joypad.sel.getLsbD 0 = false ∧
                    (Config.pressed .right s.free.polls ∨ Config.pressed .left s.free.polls ∨
                      Config.pressed .up s.free.polls ∨ Config.pressed .down s.free.polls)) ∨
                   (s.joypad.sel.getLsbD 1 = false ∧
                    (Config.pressed .a s.free.polls ∨ Config.pressed .b s.free.polls ∨
                      Config.pressed .select s.free.polls ∨ Config.pressed .start s.free.polls))
                then .running else .stopped) ∧
      (s.serial.sc7 = false → t.serial = s.serial ∧ t.iflag = s.iflag)

/-- Where a step has no next state (60_exceptions.md R250; 46_system.md R241): it faults exactly in `Faulted`, and it is refused
exactly when the parameter is `refuse` and HALT is executed with IME = 0 (after a pending `EI`) while an enabled interrupt is
pending. -/
def Obligations.StepStopsOnlyWhereSaid : Prop :=
  ∀ s : State,
    (step s = .fault .faulted ↔ s.mode = .faulted) ∧
    (∀ r, step s = .refused r → r = .haltIme0Pending) ∧
    (step s = .refused .haltIme0Pending ↔
      (s.mode = .running ∨ s.mode = .halted) ∧ (fetch s).1 = .halt ∧ s.ime = false ∧ s.eiPending = false ∧
        pending s ≠ 0 ∧ s.cfg.haltPolicy = .refuse)

/-- Every instruction completes (60_exceptions.md R251: no other exception): it answers a next state, and but for an unmapped opcode it
reports a multiple of 4 cycles from 4 to 24 (70_reset_and_hazards.md R345).  The one exception is HALT in case 3 under `refuse`. -/
def Obligations.EveryInstructionCompletes : Prop :=
  ∀ (i : Instr) (s : State),
    (i = .halt → s.ime = true ∨ pending s = 0 ∨ s.cfg.haltPolicy ≠ .refuse) →
    ∃ t, exec i s = .next t ∧
      ((∀ op, i ≠ .unmapped op) → t.cycles % 4 = 0 ∧ 4 ≤ t.cycles ∧ t.cycles ≤ 24)

/-! ## Rules about the whole machine -/

/-- Every step keeps the invariant: the memories stay canonical and inside their size, the counts inside their ranges, `bank1` nonzero,
and the PPU's mode the one its position gives (10_state.md R24, R25, R28; 20_memory.md R72; 60_exceptions.md R281 to R283). -/
def Obligations.StepKeepsInvariant : Prop :=
  ∀ s t : State, s.Inv → step s = .next t → t.Inv

/-- The invariant holds right after reset, with every configuration that passes the load-time checks (70_reset_and_hazards.md R320 to
R322).  The default configuration is the model's choice (assumption 7). -/
def Obligations.ResetMeetsInvariant : Prop :=
  State.reset.Inv ∧ ∀ cfg : Config, configValid cfg = true → (State.resetWith cfg).Inv

/-- IME and `ei_pending` change only by the events named (10_state.md R19, R20): of the instructions only DI, EI and RETI touch them;
a step changes IME only by a dispatch, by a pending EI taking effect, or by running DI or RETI. -/
def Obligations.ImeChangesOnlyByNamedEvents : Prop :=
  (∀ (i : Instr) (s t : State), exec i s = .next t →
    (t.ime = s.ime ∧ t.eiPending = s.eiPending) ∨
    (i = .di ∧ t.ime = false ∧ t.eiPending = false) ∨
    (i = .ei ∧ t.ime = s.ime ∧ t.eiPending = true) ∨
    (i = .reti ∧ t.ime = true ∧ t.eiPending = false)) ∧
  (∀ s t : State, step s = .next t → t.ime ≠ s.ime →
    (s.ime = true ∧ pending s ≠ 0 ∧ t.ime = false) ∨ s.eiPending = true ∨
      (fetch s).1 = .di ∨ (fetch s).1 = .reti)

/-- A flag changes only by the instructions of the table of 10_state.md R16, and there only as its rows say: neither any other
instruction nor interrupt dispatch nor a peripheral changes one (R14). -/
def Obligations.FlagsChangeOnlyByNamedInstructions : Prop :=
  (∀ (i : Instr) (s t : State), exec i s = .next t →
    (t.fZ = s.fZ ∧ t.fN = s.fN ∧ t.fH = s.fH ∧ t.fC = s.fC) ∨
    (∃ op, ((∃ r, i = Form.aluReg op r) ∨ i = Form.aluMhl op ∨ (∃ n, i = Form.aluImm op n)) ∧
      t.fN = (op = .sub || op = .sbc || op = .cp) ∧
      (op = .and → t.fH = true ∧ t.fC = false) ∧ (op = .xor ∨ op = .or → t.fH = false ∧ t.fC = false)) ∨
    (((∃ r, i = Form.incReg r) ∨ i = .inc_mhl) ∧ t.fN = false ∧ t.fC = s.fC) ∨
    (((∃ r, i = Form.decReg r) ∨ i = .dec_mhl) ∧ t.fN = true ∧ t.fC = s.fC) ∨
    (i = .daa ∧ t.fN = s.fN ∧ t.fH = false) ∨
    (i = .cpl ∧ t.fZ = s.fZ ∧ t.fN = true ∧ t.fH = true ∧ t.fC = s.fC) ∨
    (i = .scf ∧ t.fZ = s.fZ ∧ t.fN = false ∧ t.fH = false ∧ t.fC = true) ∨
    (i = .ccf ∧ t.fZ = s.fZ ∧ t.fN = false ∧ t.fH = false ∧ t.fC = !s.fC) ∨
    ((∃ p, i = Form.addHlPair p) ∧ t.fZ = s.fZ ∧ t.fN = false) ∨
    (((∃ e, i = .add_sp_e e) ∨ (∃ e, i = .ld_hl_sp_e e)) ∧ t.fZ = false ∧ t.fN = false) ∨
    ((∃ op, i = Form.accRot op) ∧ t.fZ = false ∧ t.fN = false ∧ t.fH = false) ∨
    (∃ op x, i = Form.rot op x ∧ t.fN = false ∧ t.fH = false ∧ (op = .swap → t.fC = false)) ∨
    ((∃ b x, i = Form.bit b x) ∧ t.fN = false ∧ t.fH = true ∧ t.fC = s.fC) ∨
    i = .pop_af ∨
    i = .prefix_cb) ∧
  (∀ (k : Nat) (s : State), (dispatchInterrupt k s).fZ = s.fZ ∧ (dispatchInterrupt k s).fN = s.fN ∧
    (dispatchInterrupt k s).fH = s.fH ∧ (dispatchInterrupt k s).fC = s.fC) ∧
  (∀ s : State, (afterCpu s).fZ = s.fZ ∧ (afterCpu s).fN = s.fN ∧ (afterCpu s).fH = s.fH ∧ (afterCpu s).fC = s.fC)

/-- Beyond the fetch advance PC changes only by the control transfers (10_state.md R17; the prefix byte alone fetches one more byte), and
SP only by the instructions named (R18). -/
def Obligations.PcAndSpChangeOnlyByNamedInstructions : Prop :=
  ∀ (i : Instr) (s t : State), exec i s = .next t →
    (t.pc = s.pc ∨ (i = .prefix_cb ∧ t.pc = s.pc + 1) ∨
      (∃ nn, i = .jp_nn nn) ∨ (∃ cc nn, i = Form.jpCond cc nn) ∨ i = .jp_hl ∨ (∃ e, i = .jr_e e) ∨
      (∃ cc e, i = Form.jrCond cc e) ∨ (∃ nn, i = .call_nn nn) ∨ (∃ cc nn, i = Form.callCond cc nn) ∨ i = .ret ∨
      (∃ cc, i = Form.retCond cc) ∨ i = .reti ∨ (∃ y, i = Form.rst y)) ∧
    (t.sp = s.sp ∨ (∃ nn, i = .ld_sp_nn nn) ∨ i = .ld_sp_hl ∨ (∃ e, i = .add_sp_e e) ∨ i = .inc_sp ∨ i = .dec_sp ∨
      (∃ p, i = Form.push p) ∨ (∃ p, i = Form.pop p) ∨ (∃ nn, i = .call_nn nn) ∨ (∃ cc nn, i = Form.callCond cc nn) ∨
      i = .ret ∨ (∃ cc, i = Form.retCond cc) ∨ i = .reti ∨ (∃ y, i = Form.rst y))

/-- The memory frame of every instruction: a read of an address shows after it what it showed before, unless one of the addresses the
instruction stores to reaches it (20_memory.md R43, R48); an instruction with no such address leaves every address alone.  STOP
stores nothing and clears the divider, which 0xFF04 shows (46_system.md R242). -/
def Obligations.StoresReachOnlyTheirTargets : Prop :=
  ∀ (i : Instr) (s t : State), s.Inv → exec i s = .next t →
    ∀ b : Word, (∀ a ∈ storeTargets i s, storeReaches a b = false) → (∀ n, i = .stop n → b ≠ 0xFF04) →
      byteAt t b = byteAt s b

/-- No step changes the configuration, so ROM bytes and the boot image never change (20_memory.md R43), and the boot overlay, once
inactive, stays so (R59). -/
def Obligations.ConfigurationAndOverlayPersist : Prop :=
  ∀ s t : State, step s = .next t → t.cfg = s.cfg ∧ (s.bootActive = false → t.bootActive = false)

/-- The execution mode changes only by HALT, STOP and an unmapped opcode among the instructions, and `halt_bug` only by HALT under the
parameter `bug` (10_state.md R21). -/
def Obligations.ModeChangesOnlyByNamedInstructions : Prop :=
  ∀ (i : Instr) (s t : State), exec i s = .next t →
    (t.mode = s.mode ∨ (i = .halt ∧ t.mode = .halted) ∨ (∃ n, i = .stop n ∧ t.mode = .stopped) ∨
      (∃ op, i = .unmapped op ∧ t.mode = .faulted)) ∧
    (t.haltBug = s.haltBug ∨
      (i = .halt ∧ s.cfg.haltPolicy = .bug ∧ s.ime = false ∧ pending s ≠ 0 ∧ t.haltBug = true))

/-- What follows the CPU's part of a step changes only the peripherals' own registers and sets bits of IF (60_exceptions.md R263,
R310): it never clears an IF bit, never touches IE, and in `Faulted` changes nothing (R250).  Otherwise it is the timer, the PPU and the
input poll advancing, in that order, by the count the CPU step reported (R270, R280, R301, R310), and then the host's opportunity to
complete a serial transfer (R303), which stands there by the model's choice (assumption 13). -/
def Obligations.PeripheralsKeepCpuState : Prop :=
  ∀ s : State, let t := afterCpu s
    t = { s with iflag := t.iflag, timer := t.timer, ppu := t.ppu, joypad := t.joypad, serial := t.serial,
                 free := t.free, events := t.events } ∧
    t.timer = { s.timer with sysclk := t.timer.sysclk, tima := t.timer.tima, sub := t.timer.sub,
                             reloadPending := t.timer.reloadPending } ∧
    t.ppu = { s.ppu with ly := t.ppu.ly, dot := t.ppu.dot, mode := t.ppu.mode, m3len := t.ppu.m3len } ∧
    t.joypad.sel = s.joypad.sel ∧ t.serial.sc0 = s.serial.sc0 ∧ t.free.reads = s.free.reads ∧
    (∀ k, s.iflag.getLsbD k = true → t.iflag.getLsbD k = true) ∧
    (s.mode = .faulted → t = s) ∧
    (s.mode ≠ .faulted → t = serialMove (inputStep s.cycles (ppuStep s.cycles (timerStep s.cycles s))))

/-! ## State and reset -/

/-- Reset without a boot image (10_state.md R31), with every value the rule gives, as registers and as the CPU reads them.  OBP0, OBP1
and the four RAMs are unspecified there and not stated here. -/
def Obligations.PostBootReset : Prop :=
  ∀ cfg : Config, cfg.boot = none → let s := State.resetWith cfg
    s.af = 0x01B0 ∧ s.bc = 0x0013 ∧ s.de = 0x00D8 ∧ s.hl = 0x014D ∧ s.sp = 0xFFFE ∧ s.pc = 0x0100 ∧
    s.ime = false ∧ s.eiPending = false ∧ s.mode = .running ∧ s.haltBug = false ∧
    s.ie = 0x00 ∧ s.iflag = 0x01 ∧ byteAt s 0xFF0F = some 0xE1 ∧
    s.timer = { sysclk := 0xABCC, tima := 0, tma := 0, tac := 0, sub := 0, reloadPending := false } ∧
    byteAt s 0xFF04 = some 0xAB ∧ byteAt s 0xFF07 = some 0xF8 ∧
    s.ppu.lcdc = 0x91 ∧ s.ppu.statEn = 0 ∧ s.ppu.scy = 0 ∧ s.ppu.scx = 0 ∧ s.ppu.lyc = 0 ∧ s.ppu.wy = 0 ∧ s.ppu.wx = 0 ∧
    s.ppu.ly = 0 ∧ s.ppu.dot = 0 ∧ s.ppu.mode = .oamScan ∧ 172 ≤ s.ppu.m3len ∧ s.ppu.m3len ≤ 289 ∧
    s.ppu.bgp = 0xFC ∧ s.dmaReg = 0xFF ∧
    s.joypad = { sel := 0, inputTimer := 0, buttonsPrev := .released } ∧ byteAt s 0xFF00 = some 0xCF ∧
    s.serial = { sb := 0, sc7 := false, sc0 := false } ∧ byteAt s 0xFF02 = some 0x7E ∧
    s.bootActive = false ∧
    s.mapper = { ramEnable := false, bank1 := 1, bank2 := 0, bankMode := false } ∧
    s.cartRam = cfg.cart.ramInit

/-- Reset with a boot image (10_state.md R32): the values the rule gives, and that the first fetch reads the image's first byte
(70_reset_and_hazards.md R322). -/
def Obligations.PowerOnReset : Prop :=
  ∀ (cfg : Config) (boot : Memory), cfg.boot = some boot → let s := State.resetWith cfg
    s.pc = 0x0000 ∧ s.ime = false ∧ s.eiPending = false ∧ s.mode = .running ∧ s.haltBug = false ∧ s.bootActive = true ∧
    s.ie = 0x00 ∧ s.iflag = 0x00 ∧
    s.timer = { sysclk := 0, tima := 0, tma := 0, tac := 0, sub := 0, reloadPending := false } ∧
    s.ppu.lcdc = 0x00 ∧ s.ppu.ly = 0 ∧ s.ppu.dot = 0 ∧ s.ppu.mode = .hblank ∧ s.ppu.statEn = 0 ∧ s.ppu.scy = 0 ∧
    s.ppu.scx = 0 ∧ s.ppu.lyc = 0 ∧ s.ppu.wy = 0 ∧ s.ppu.wx = 0 ∧
    s.joypad = { sel := 0, inputTimer := 0, buttonsPrev := .released } ∧
    s.serial = { sb := 0, sc7 := false, sc0 := false } ∧
    s.mapper = { ramEnable := false, bank1 := 1, bank2 := 0, bankMode := false } ∧
    s.cartRam = cfg.cart.ramInit ∧
    readByte s s.pc = Memory.get boot 0

/-- The register file (10_state.md R10 to R15): seven independent cells; BC, DE, HL as views of them; F with its four bits on top and
zeros below; AF read and written through that view, so that a write keeps only 0xFFF0. -/
def Obligations.RegisterViews : Prop :=
  (∀ (s : State) (x y : Reg8) (v : Byte), (s.setReg x v).reg y = if y = x then v else s.reg y) ∧
  (∀ (s : State) (x : Reg8) (v : Byte), let t := s.setReg x v
    t = { s with a := t.a, b := t.b, c := t.c, d := t.d, e := t.e, h := t.h, l := t.l }) ∧
  (∀ s : State, s.bc.toNat = s.b.toNat * 256 + s.c.toNat ∧ s.de.toNat = s.d.toNat * 256 + s.e.toNat ∧
    s.hl.toNat = s.h.toNat * 256 + s.l.toNat) ∧
  (∀ (s : State) (p : Pair16) (v : Word), (s.setPair p v).pair p = v) ∧
  (∀ (s : State) (v : Word),
    s.setPair .bc v = { s with b := hiByte v, c := loByte v } ∧
    s.setPair .de v = { s with d := hiByte v, e := loByte v } ∧
    s.setPair .hl v = { s with h := hiByte v, l := loByte v } ∧
    s.setPair .sp v = { s with sp := v }) ∧
  (∀ s : State, s.f.toNat = s.fZ.toNat * 128 + s.fN.toNat * 64 + s.fH.toNat * 32 + s.fC.toNat * 16) ∧
  (∀ s : State, s.af.toNat = s.a.toNat * 256 + s.f.toNat) ∧
  (∀ (s : State) (v : Word), (s.setStackPair .af v).af = v &&& 0xFFF0 ∧
    s.setStackPair .af v = { s with a := hiByte v, fZ := v.getLsbD 7, fN := v.getLsbD 6, fH := v.getLsbD 5,
                                    fC := v.getLsbD 4 })

/-! ## Loads, stores and the stack -/

/-- `LD r,r'` and `LD r,n` (40_load8.md R110, R111): encoding and whole effect. -/
def Obligations.RegisterLoads : Prop :=
  (∀ (x y : Reg8) (rest : List Byte),
    decode (opcode 1 (regIndex x) (regIndex y) :: rest) = .ok (Form.ldRegReg x y) rest) ∧
  (∀ (x y : Reg8) (s : State), exec (Form.ldRegReg x y) s = .next { s.setReg x (s.reg y) with cycles := 4 }) ∧
  (∀ (x : Reg8) (n : Byte) (rest : List Byte),
    decode (opcode 0 (regIndex x) 6 :: n :: rest) = .ok (Form.ldRegImm x n) rest) ∧
  (∀ (x : Reg8) (n : Byte) (s : State), exec (Form.ldRegImm x n) s = .next { s.setReg x n with cycles := 8 })

/-- Loads from memory (40_load8.md R112, R115, R116, R119, R121, R123, R125, R126): encoding and whole effect.  `countRead` is the
model's count of reads (assumption 2); the byte is the one at the address before the instruction changes anything. -/
def Obligations.LoadsFromMemory : Prop :=
  (∀ (x : Reg8) (rest : List Byte), decode (opcode 1 (regIndex x) 6 :: rest) = .ok (Form.ldRegMhl x) rest) ∧
  (∀ (x : Reg8) (s : State),
    exec (Form.ldRegMhl x) s = .next { s.countRead.setReg x (readByte s s.hl) with cycles := 8 }) ∧
  (∀ rest : List Byte, decode (0x0A :: rest) = .ok .ld_a_mbc rest) ∧
  (∀ s : State, exec .ld_a_mbc s = .next { s.countRead with a := readByte s s.bc, cycles := 8 }) ∧
  (∀ rest : List Byte, decode (0x1A :: rest) = .ok .ld_a_mde rest) ∧
  (∀ s : State, exec .ld_a_mde s = .next { s.countRead with a := readByte s s.de, cycles := 8 }) ∧
  (∀ (lo hi : Byte) (rest : List Byte), decode (0xFA :: lo :: hi :: rest) = .ok (.ld_a_mnn (word hi lo)) rest) ∧
  (∀ (nn : Word) (s : State), exec (.ld_a_mnn nn) s = .next { s.countRead with a := readByte s nn, cycles := 16 }) ∧
  (∀ rest : List Byte, decode (0xF2 :: rest) = .ok .ldh_a_mc rest) ∧
  (∀ s : State, exec .ldh_a_mc s =
    .next { s.countRead with a := readByte s (0xFF00 + s.c.setWidth 16), cycles := 8 }) ∧
  (∀ (n : Byte) (rest : List Byte), decode (0xF0 :: n :: rest) = .ok (.ldh_a_mn n) rest) ∧
  (∀ (n : Byte) (s : State), exec (.ldh_a_mn n) s =
    .next { s.countRead with a := readByte s (0xFF00 + n.setWidth 16), cycles := 12 }) ∧
  (∀ rest : List Byte, decode (0x2A :: rest) = .ok .ld_a_mhli rest) ∧
  (∀ s : State, exec .ld_a_mhli s =
    .next { s.countRead with a := readByte s s.hl, h := hiByte (s.hl + 1), l := loByte (s.hl + 1), cycles := 8 }) ∧
  (∀ rest : List Byte, decode (0x3A :: rest) = .ok .ld_a_mhld rest) ∧
  (∀ s : State, exec .ld_a_mhld s =
    .next { s.countRead with a := readByte s s.hl, h := hiByte (s.hl - 1), l := loByte (s.hl - 1), cycles := 8 })

/-- Stores to memory (40_load8.md R113, R114, R117, R118, R120, R122, R124, R127, R128; 41_load16_stack.md R141): encoding and whole
effect.  What one byte write does is `Obligations.MemoryMap`; what it leaves is `Obligations.StoresReachOnlyTheirTargets`. -/
def Obligations.StoresToMemory : Prop :=
  (∀ (x : Reg8) (rest : List Byte), decode (opcode 1 6 (regIndex x) :: rest) = .ok (Form.ldMhlReg x) rest) ∧
  (∀ (x : Reg8) (s : State), exec (Form.ldMhlReg x) s = .next { writeByte s.hl (s.reg x) s with cycles := 8 }) ∧
  (∀ (n : Byte) (rest : List Byte), decode (0x36 :: n :: rest) = .ok (.ld_mhl_n n) rest) ∧
  (∀ (n : Byte) (s : State), exec (.ld_mhl_n n) s = .next { writeByte s.hl n s with cycles := 12 }) ∧
  (∀ rest : List Byte, decode (0x02 :: rest) = .ok .ld_mbc_a rest) ∧
  (∀ s : State, exec .ld_mbc_a s = .next { writeByte s.bc s.a s with cycles := 8 }) ∧
  (∀ rest : List Byte, decode (0x12 :: rest) = .ok .ld_mde_a rest) ∧
  (∀ s : State, exec .ld_mde_a s = .next { writeByte s.de s.a s with cycles := 8 }) ∧
  (∀ (lo hi : Byte) (rest : List Byte), decode (0xEA :: lo :: hi :: rest) = .ok (.ld_mnn_a (word hi lo)) rest) ∧
  (∀ (nn : Word) (s : State), exec (.ld_mnn_a nn) s = .next { writeByte nn s.a s with cycles := 16 }) ∧
  (∀ rest : List Byte, decode (0xE2 :: rest) = .ok .ldh_mc_a rest) ∧
  (∀ s : State, exec .ldh_mc_a s = .next { writeByte (0xFF00 + s.c.setWidth 16) s.a s with cycles := 8 }) ∧
  (∀ (n : Byte) (rest : List Byte), decode (0xE0 :: n :: rest) = .ok (.ldh_mn_a n) rest) ∧
  (∀ (n : Byte) (s : State),
    exec (.ldh_mn_a n) s = .next { writeByte (0xFF00 + n.setWidth 16) s.a s with cycles := 12 }) ∧
  (∀ rest : List Byte, decode (0x22 :: rest) = .ok .ld_mhli_a rest) ∧
  (∀ s : State, exec .ld_mhli_a s =
    .next { writeByte s.hl s.a s with h := hiByte (s.hl + 1), l := loByte (s.hl + 1), cycles := 8 }) ∧
  (∀ rest : List Byte, decode (0x32 :: rest) = .ok .ld_mhld_a rest) ∧
  (∀ s : State, exec .ld_mhld_a s =
    .next { writeByte s.hl s.a s with h := hiByte (s.hl - 1), l := loByte (s.hl - 1), cycles := 8 }) ∧
  (∀ (lo hi : Byte) (rest : List Byte), decode (0x08 :: lo :: hi :: rest) = .ok (.ld_mnn_sp (word hi lo)) rest) ∧
  (∀ (nn : Word) (s : State), exec (.ld_mnn_sp nn) s =
    .next { writeByte (nn + 1) (hiByte s.sp) (writeByte nn (loByte s.sp) s) with cycles := 20 })

/-- `LD rr,nn`, `LD SP,HL` and `LD HL,SP+e` (41_load16_stack.md R140, R142, R143): encoding and whole effect. -/
def Obligations.PairLoads : Prop :=
  (∀ (p : Pair16) (lo hi : Byte) (rest : List Byte),
    decode (opcode 0 (pairIndex p * 2) 1 :: lo :: hi :: rest) = .ok (Form.ldPairImm p (word hi lo)) rest) ∧
  (∀ (p : Pair16) (nn : Word) (s : State), exec (Form.ldPairImm p nn) s = .next { s.setPair p nn with cycles := 12 }) ∧
  (∀ rest : List Byte, decode (0xF9 :: rest) = .ok .ld_sp_hl rest) ∧
  (∀ s : State, exec .ld_sp_hl s = .next { s with sp := s.hl, cycles := 8 }) ∧
  (∀ (e : Byte) (rest : List Byte), decode (0xF8 :: e :: rest) = .ok (.ld_hl_sp_e e) rest) ∧
  (∀ (e : Byte) (s : State), let v := BitVec.ofInt 16 ((s.sp.toNat : Int) + e.toInt)
    exec (.ld_hl_sp_e e) s =
      .next { s with h := hiByte v, l := loByte v, fZ := false, fN := false,
                     fH := decide (s.sp.toNat % 16 + e.toNat % 16 > 0x0F),
                     fC := decide (s.sp.toNat % 256 + e.toNat > 0xFF), cycles := 12 })

/-- `PUSH qq` and `POP qq` (41_load16_stack.md R144, R145): encoding and whole effect. -/
def Obligations.PushAndPop : Prop :=
  (∀ (p : StackPair) (rest : List Byte), decode (opcode 3 (stackIndex p * 2) 5 :: rest) = .ok (Form.push p) rest) ∧
  (∀ (p : StackPair) (s : State), exec (Form.push p) s =
    .next { writeByte (s.sp - 2) (loByte (s.stackPair p)) (writeByte (s.sp - 1) (hiByte (s.stackPair p))
              { s with sp := s.sp - 2 }) with cycles := 16 }) ∧
  (∀ (p : StackPair) (rest : List Byte), decode (opcode 3 (stackIndex p * 2) 1 :: rest) = .ok (Form.pop p) rest) ∧
  (∀ (p : StackPair) (s : State), exec (Form.pop p) s =
    .next { s.countRead.countRead.setStackPair p (word (readByte s.countRead (s.sp + 1)) (readByte s s.sp)) with
            sp := s.sp + 2, cycles := 12 }) ∧
  (∀ s : State, let low := readByte s s.sp
    exec .pop_af s =
      .next { s.countRead.countRead with
              a := readByte s.countRead (s.sp + 1), fZ := low.getLsbD 7, fN := low.getLsbD 6, fH := low.getLsbD 5,
              fC := low.getLsbD 4, sp := s.sp + 2, cycles := 12 }) ∧
  (∀ (s : State) (v : Word),
    s.setStackPair .bc v = { s with b := hiByte v, c := loByte v } ∧
    s.setStackPair .de v = { s with d := hiByte v, e := loByte v } ∧
    s.setStackPair .hl v = { s with h := hiByte v, l := loByte v })

/-- Pushing a pair and immediately popping gives the same value back and leaves SP where it was, when both stack bytes are plain RAM
(10_state.md R18); popped into AF, bits 3 to 0 are lost (R12), which changes nothing when AF itself was pushed. -/
def Obligations.PushThenPopRestores : Prop :=
  ∀ (s : State) (p q : StackPair), s.Inv → plainRam (s.sp - 1) = true → plainRam (s.sp - 2) = true →
    ∃ t u, exec (Form.push p) s = .next t ∧ exec (Form.pop q) t = .next u ∧ u.sp = s.sp ∧
      (q ≠ .af → u.stackPair q = s.stackPair p) ∧
      (q = .af → u.stackPair q = s.stackPair p &&& 0xFFF0) ∧
      (q = p → u.stackPair q = s.stackPair p)

/-- A byte stored to plain RAM is the byte a read of its cell shows, through the echo as well, and every other cell keeps its byte
(20_memory.md R43, R51, R53). -/
def Obligations.PlainStoreReadsBack : Prop :=
  ∀ (s : State) (a b : Word) (v : Byte), s.Inv → plainRam a = true → plainRam b = true →
    byteAt (writeByte a v s) b = if storageCell b = storageCell a then some v else byteAt s b

/-! ## 8-bit arithmetic and logic -/

/-- `ADD A,s` and `ADC A,s` in every operand form (42_alu8.md R151, R152): encoding, result, flags, and nothing else. -/
def Obligations.AdditionsSetResultAndFlags : Prop :=
  let sum (v : Byte) (c : Nat) (cyc : Nat) (s : State) : State :=
    { s with a := BitVec.ofNat 8 (s.a.toNat + v.toNat + c)
             fZ := decide ((s.a.toNat + v.toNat + c) % 256 = 0)
             fN := false
             fH := decide (s.a.toNat % 16 + v.toNat % 16 + c > 0x0F)
             fC := decide (s.a.toNat + v.toNat + c > 0xFF)
             cycles := cyc }
  (∀ (r : Reg8) (rest : List Byte), decode (opcode 2 0 (regIndex r) :: rest) = .ok (Form.aluReg .add r) rest) ∧
  (∀ rest : List Byte, decode (0x86 :: rest) = .ok (Form.aluMhl .add) rest) ∧
  (∀ (n : Byte) (rest : List Byte), decode (0xC6 :: n :: rest) = .ok (Form.aluImm .add n) rest) ∧
  (∀ (r : Reg8) (s : State), exec (Form.aluReg .add r) s = .next (sum (s.reg r) 0 4 s)) ∧
  (∀ s : State, exec (Form.aluMhl .add) s = .next (sum (readByte s s.hl) 0 8 s.countRead)) ∧
  (∀ (n : Byte) (s : State), exec (Form.aluImm .add n) s = .next (sum n 0 8 s)) ∧
  (∀ (r : Reg8) (rest : List Byte), decode (opcode 2 1 (regIndex r) :: rest) = .ok (Form.aluReg .adc r) rest) ∧
  (∀ rest : List Byte, decode (0x8E :: rest) = .ok (Form.aluMhl .adc) rest) ∧
  (∀ (n : Byte) (rest : List Byte), decode (0xCE :: n :: rest) = .ok (Form.aluImm .adc n) rest) ∧
  (∀ (r : Reg8) (s : State), exec (Form.aluReg .adc r) s = .next (sum (s.reg r) s.fC.toNat 4 s)) ∧
  (∀ s : State, exec (Form.aluMhl .adc) s = .next (sum (readByte s s.hl) s.fC.toNat 8 s.countRead)) ∧
  (∀ (n : Byte) (s : State), exec (Form.aluImm .adc n) s = .next (sum n s.fC.toNat 8 s))

/-- `SUB s`, `SBC A,s` and `CP s` in every operand form (42_alu8.md R153, R154, R158): encoding, result, flags, and nothing else; `CP`
leaves A. -/
def Obligations.SubtractionsSetResultAndFlags : Prop :=
  let diff (v : Byte) (c : Nat) (cyc : Nat) (s : State) : State :=
    { s with a := BitVec.ofInt 8 ((s.a.toNat : Int) - v.toNat - c)
             fZ := decide (((s.a.toNat : Int) - v.toNat - c) % 256 = 0)
             fN := true
             fH := decide (s.a.toNat % 16 < v.toNat % 16 + c)
             fC := decide ((s.a.toNat : Int) - v.toNat - c < 0)
             cycles := cyc }
  let compared (v : Byte) (cyc : Nat) (s : State) : State :=
    { s with fZ := decide (s.a = v)
             fN := true
             fH := decide (s.a.toNat % 16 < v.toNat % 16)
             fC := decide (s.a.toNat < v.toNat)
             cycles := cyc }
  (∀ (r : Reg8) (rest : List Byte), decode (opcode 2 2 (regIndex r) :: rest) = .ok (Form.aluReg .sub r) rest) ∧
  (∀ rest : List Byte, decode (0x96 :: rest) = .ok (Form.aluMhl .sub) rest) ∧
  (∀ (n : Byte) (rest : List Byte), decode (0xD6 :: n :: rest) = .ok (Form.aluImm .sub n) rest) ∧
  (∀ (r : Reg8) (s : State), exec (Form.aluReg .sub r) s = .next (diff (s.reg r) 0 4 s)) ∧
  (∀ s : State, exec (Form.aluMhl .sub) s = .next (diff (readByte s s.hl) 0 8 s.countRead)) ∧
  (∀ (n : Byte) (s : State), exec (Form.aluImm .sub n) s = .next (diff n 0 8 s)) ∧
  (∀ (r : Reg8) (rest : List Byte), decode (opcode 2 3 (regIndex r) :: rest) = .ok (Form.aluReg .sbc r) rest) ∧
  (∀ rest : List Byte, decode (0x9E :: rest) = .ok (Form.aluMhl .sbc) rest) ∧
  (∀ (n : Byte) (rest : List Byte), decode (0xDE :: n :: rest) = .ok (Form.aluImm .sbc n) rest) ∧
  (∀ (r : Reg8) (s : State), exec (Form.aluReg .sbc r) s = .next (diff (s.reg r) s.fC.toNat 4 s)) ∧
  (∀ s : State, exec (Form.aluMhl .sbc) s = .next (diff (readByte s s.hl) s.fC.toNat 8 s.countRead)) ∧
  (∀ (n : Byte) (s : State), exec (Form.aluImm .sbc n) s = .next (diff n s.fC.toNat 8 s)) ∧
  (∀ (r : Reg8) (rest : List Byte), decode (opcode 2 7 (regIndex r) :: rest) = .ok (Form.aluReg .cp r) rest) ∧
  (∀ rest : List Byte, decode (0xBE :: rest) = .ok (Form.aluMhl .cp) rest) ∧
  (∀ (n : Byte) (rest : List Byte), decode (0xFE :: n :: rest) = .ok (Form.aluImm .cp n) rest) ∧
  (∀ (r : Reg8) (s : State), exec (Form.aluReg .cp r) s = .next (compared (s.reg r) 4 s)) ∧
  (∀ s : State, exec (Form.aluMhl .cp) s = .next (compared (readByte s s.hl) 8 s.countRead)) ∧
  (∀ (n : Byte) (s : State), exec (Form.aluImm .cp n) s = .next (compared n 8 s))

/-- `AND s`, `XOR s` and `OR s` in every operand form (42_alu8.md R155, R156, R157): encoding, result, flags, and nothing else. -/
def Obligations.LogicSetsResultAndFlags : Prop :=
  let out (r : Byte) (h : Bool) (cyc : Nat) (s : State) : State :=
    { s with a := r, fZ := decide (r = 0), fN := false, fH := h, fC := false, cycles := cyc }
  (∀ (r : Reg8) (rest : List Byte), decode (opcode 2 4 (regIndex r) :: rest) = .ok (Form.aluReg .and r) rest) ∧
  (∀ rest : List Byte, decode (0xA6 :: rest) = .ok (Form.aluMhl .and) rest) ∧
  (∀ (n : Byte) (rest : List Byte), decode (0xE6 :: n :: rest) = .ok (Form.aluImm .and n) rest) ∧
  (∀ (r : Reg8) (s : State), exec (Form.aluReg .and r) s = .next (out (s.a &&& s.reg r) true 4 s)) ∧
  (∀ s : State, exec (Form.aluMhl .and) s = .next (out (s.a &&& readByte s s.hl) true 8 s.countRead)) ∧
  (∀ (n : Byte) (s : State), exec (Form.aluImm .and n) s = .next (out (s.a &&& n) true 8 s)) ∧
  (∀ (r : Reg8) (rest : List Byte), decode (opcode 2 5 (regIndex r) :: rest) = .ok (Form.aluReg .xor r) rest) ∧
  (∀ rest : List Byte, decode (0xAE :: rest) = .ok (Form.aluMhl .xor) rest) ∧
  (∀ (n : Byte) (rest : List Byte), decode (0xEE :: n :: rest) = .ok (Form.aluImm .xor n) rest) ∧
  (∀ (r : Reg8) (s : State), exec (Form.aluReg .xor r) s = .next (out (s.a ^^^ s.reg r) false 4 s)) ∧
  (∀ s : State, exec (Form.aluMhl .xor) s = .next (out (s.a ^^^ readByte s s.hl) false 8 s.countRead)) ∧
  (∀ (n : Byte) (s : State), exec (Form.aluImm .xor n) s = .next (out (s.a ^^^ n) false 8 s)) ∧
  (∀ (r : Reg8) (rest : List Byte), decode (opcode 2 6 (regIndex r) :: rest) = .ok (Form.aluReg .or r) rest) ∧
  (∀ rest : List Byte, decode (0xB6 :: rest) = .ok (Form.aluMhl .or) rest) ∧
  (∀ (n : Byte) (rest : List Byte), decode (0xF6 :: n :: rest) = .ok (Form.aluImm .or n) rest) ∧
  (∀ (r : Reg8) (s : State), exec (Form.aluReg .or r) s = .next (out (s.a ||| s.reg r) false 4 s)) ∧
  (∀ s : State, exec (Form.aluMhl .or) s = .next (out (s.a ||| readByte s s.hl) false 8 s.countRead)) ∧
  (∀ (n : Byte) (s : State), exec (Form.aluImm .or n) s = .next (out (s.a ||| n) false 8 s))

/-- `INC` and `DEC` of a register and of the byte at HL (42_alu8.md R159 to R162): encoding, result, flags with fC kept, and nothing
else. -/
def Obligations.IncrementAndDecrement : Prop :=
  (∀ (x : Reg8) (rest : List Byte), decode (opcode 0 (regIndex x) 4 :: rest) = .ok (Form.incReg x) rest) ∧
  (∀ (x : Reg8) (s : State), exec (Form.incReg x) s =
    .next { s.setReg x (BitVec.ofNat 8 ((s.reg x).toNat + 1)) with
            fZ := decide (((s.reg x).toNat + 1) % 256 = 0), fN := false, fH := decide ((s.reg x).toNat % 16 = 0xF),
            cycles := 4 }) ∧
  (∀ rest : List Byte, decode (0x34 :: rest) = .ok .inc_mhl rest) ∧
  (∀ s : State, let v := (readByte s s.hl).toNat
    exec .inc_mhl s =
      .next { writeByte s.hl (BitVec.ofNat 8 (v + 1)) s.countRead with
              fZ := decide ((v + 1) % 256 = 0), fN := false, fH := decide (v % 16 = 0xF), cycles := 12 }) ∧
  (∀ (x : Reg8) (rest : List Byte), decode (opcode 0 (regIndex x) 5 :: rest) = .ok (Form.decReg x) rest) ∧
  (∀ (x : Reg8) (s : State), exec (Form.decReg x) s =
    .next { s.setReg x (BitVec.ofNat 8 ((s.reg x).toNat + 255)) with
            fZ := decide ((s.reg x).toNat = 1), fN := true, fH := decide ((s.reg x).toNat % 16 = 0), cycles := 4 }) ∧
  (∀ rest : List Byte, decode (0x35 :: rest) = .ok .dec_mhl rest) ∧
  (∀ s : State, let v := (readByte s s.hl).toNat
    exec .dec_mhl s =
      .next { writeByte s.hl (BitVec.ofNat 8 (v + 255)) s.countRead with
              fZ := decide (v = 1), fN := true, fH := decide (v % 16 = 0), cycles := 12 })

/-- `DAA` (42_alu8.md R163): encoding, both branches, flags, and nothing else. -/
def Obligations.DecimalAdjust : Prop :=
  (∀ rest : List Byte, decode (0x27 :: rest) = .ok .daa rest) ∧
  (∀ s : State, s.fN = false →
    let high := s.fC || decide (s.a.toNat > 0x99)
    let low := s.fH || decide (s.a.toNat % 16 > 0x9)
    let r := s.a.toNat + (if high then 0x60 else 0) + (if low then 0x06 else 0)
    exec .daa s =
      .next { s with a := BitVec.ofNat 8 r, fZ := decide (r % 256 = 0), fH := false, fC := high, cycles := 4 }) ∧
  (∀ s : State, s.fN = true →
    let r : Int := (s.a.toNat : Int) - (if s.fC then 0x60 else 0) - (if s.fH then 0x06 else 0)
    exec .daa s = .next { s with a := BitVec.ofInt 8 r, fZ := decide (r % 256 = 0), fH := false, cycles := 4 })

/-- What `DAA` is for (42_alu8.md R163): on packed decimal operands, adding or subtracting with the carry and then adjusting gives the
decimal sum or difference of two digits, with fC the decimal carry or borrow and fZ telling zero. -/
def Obligations.DecimalArithmetic : Prop :=
  ∀ (s : State) (n : Byte), isBcd s.a → isBcd n →
    (∃ t u, exec (Form.aluImm .adc n) s = .next t ∧ exec .daa t = .next u ∧ isBcd u.a ∧
      bcdValue u.a = (bcdValue s.a + bcdValue n + s.fC.toNat) % 100 ∧
      u.fC = decide (bcdValue s.a + bcdValue n + s.fC.toNat ≥ 100) ∧ u.fZ = decide (bcdValue u.a = 0)) ∧
    (∃ t u, exec (Form.aluImm .sbc n) s = .next t ∧ exec .daa t = .next u ∧ isBcd u.a ∧
      bcdValue u.a = (bcdValue s.a + 200 - bcdValue n - s.fC.toNat) % 100 ∧
      u.fC = decide (bcdValue s.a < bcdValue n + s.fC.toNat) ∧ u.fZ = decide (bcdValue u.a = 0)) ∧
    (∃ t u, exec (Form.aluImm .add n) s = .next t ∧ exec .daa t = .next u ∧ isBcd u.a ∧
      bcdValue u.a = (bcdValue s.a + bcdValue n) % 100 ∧ u.fC = decide (bcdValue s.a + bcdValue n ≥ 100)) ∧
    (∃ t u, exec (Form.aluImm .sub n) s = .next t ∧ exec .daa t = .next u ∧ isBcd u.a ∧
      bcdValue u.a = (bcdValue s.a + 100 - bcdValue n) % 100 ∧ u.fC = decide (bcdValue s.a < bcdValue n))

/-- `CPL`, `SCF` and `CCF` (42_alu8.md R164, R165, R166): encoding, result, flags, and nothing else. -/
def Obligations.ComplementAndCarry : Prop :=
  (∀ rest : List Byte, decode (0x2F :: rest) = .ok .cpl rest) ∧
  (∀ s : State, exec .cpl s =
    .next { s with a := BitVec.ofNat 8 (255 - s.a.toNat), fN := true, fH := true, cycles := 4 }) ∧
  (∀ rest : List Byte, decode (0x37 :: rest) = .ok .scf rest) ∧
  (∀ s : State, exec .scf s = .next { s with fN := false, fH := false, fC := true, cycles := 4 }) ∧
  (∀ rest : List Byte, decode (0x3F :: rest) = .ok .ccf rest) ∧
  (∀ s : State, exec .ccf s = .next { s with fN := false, fH := false, fC := !s.fC, cycles := 4 })

/-! ## 16-bit arithmetic -/

/-- `ADD HL,rr`, `INC rr`, `DEC rr` and `ADD SP,e` (43_alu16.md R180 to R183): encoding, result, flags, and nothing else. -/
def Obligations.WideArithmetic : Prop :=
  (∀ (p : Pair16) (rest : List Byte),
    decode (opcode 0 (pairIndex p * 2 + 1) 1 :: rest) = .ok (Form.addHlPair p) rest) ∧
  (∀ (p : Pair16) (s : State), let sum := s.hl.toNat + (s.pair p).toNat
    exec (Form.addHlPair p) s =
      .next { s with h := hiByte (BitVec.ofNat 16 sum), l := loByte (BitVec.ofNat 16 sum), fN := false,
                     fH := decide (s.hl.toNat % 4096 + (s.pair p).toNat % 4096 > 0x0FFF), fC := decide (sum > 0xFFFF),
                     cycles := 8 }) ∧
  (∀ (p : Pair16) (rest : List Byte), decode (opcode 0 (pairIndex p * 2) 3 :: rest) = .ok (Form.incPair p) rest) ∧
  (∀ (p : Pair16) (s : State), exec (Form.incPair p) s =
    .next { s.setPair p (BitVec.ofNat 16 ((s.pair p).toNat + 1)) with cycles := 8 }) ∧
  (∀ (p : Pair16) (rest : List Byte), decode (opcode 0 (pairIndex p * 2 + 1) 3 :: rest) = .ok (Form.decPair p) rest) ∧
  (∀ (p : Pair16) (s : State), exec (Form.decPair p) s =
    .next { s.setPair p (BitVec.ofNat 16 ((s.pair p).toNat + 65535)) with cycles := 8 }) ∧
  (∀ (e : Byte) (rest : List Byte), decode (0xE8 :: e :: rest) = .ok (.add_sp_e e) rest) ∧
  (∀ (e : Byte) (s : State), exec (.add_sp_e e) s =
    .next { s with sp := BitVec.ofInt 16 ((s.sp.toNat : Int) + e.toInt), fZ := false, fN := false,
                   fH := decide (s.sp.toNat % 16 + e.toNat % 16 > 0x0F),
                   fC := decide (s.sp.toNat % 256 + e.toNat > 0xFF), cycles := 16 })

/-! ## Rotates, shifts and bits -/

/-- `RLCA`, `RRCA`, `RLA` and `RRA` (44_rotate_shift_bit.md R190 to R193): encoding, result, flags with fZ always 0, and nothing
else. -/
def Obligations.AccumulatorRotates : Prop :=
  let out (r : Nat) (c : Bool) (s : State) : State :=
    { s with a := BitVec.ofNat 8 r, fZ := false, fN := false, fH := false, fC := c, cycles := 4 }
  (∀ rest : List Byte, decode (0x07 :: rest) = .ok .rlca rest ∧ decode (0x0F :: rest) = .ok .rrca rest ∧
    decode (0x17 :: rest) = .ok .rla rest ∧ decode (0x1F :: rest) = .ok .rra rest) ∧
  (∀ s : State, exec .rlca s = .next (out (s.a.toNat * 2 + s.a.toNat / 128) (decide (s.a.toNat ≥ 128)) s)) ∧
  (∀ s : State, exec .rrca s =
    .next (out (s.a.toNat / 2 + s.a.toNat % 2 * 128) (decide (s.a.toNat % 2 = 1)) s)) ∧
  (∀ s : State, exec .rla s = .next (out (s.a.toNat * 2 + s.fC.toNat) (decide (s.a.toNat ≥ 128)) s)) ∧
  (∀ s : State, exec .rra s = .next (out (s.a.toNat / 2 + s.fC.toNat * 128) (decide (s.a.toNat % 2 = 1)) s))

/-- The eight rotates and shifts of the CB table on a register and on the byte at HL (44_rotate_shift_bit.md R195 to R202, with the
operand access of R194): encoding, result, flags, and nothing else. -/
def Obligations.ExtendedRotatesAndShifts : Prop :=
  let rule (op : RotOp) (w : Nat → Nat → Nat) (out : Nat → Bool) : Prop :=
    (∀ (x : Operand8) (rest : List Byte),
      decode (0xCB :: opcode 0 (rotIndex op) (operandIndex x) :: rest) = .ok (Form.rot op x) rest) ∧
    (∀ (x : Reg8) (s : State), let v := (s.reg x).toNat
      exec (Form.rot op (.reg x)) s =
        .next { s.setReg x (BitVec.ofNat 8 (w v s.fC.toNat)) with
                fZ := decide (w v s.fC.toNat % 256 = 0), fN := false, fH := false, fC := out v, cycles := 8 }) ∧
    (∀ s : State, let v := (readByte s s.hl).toNat
      exec (Form.rot op .mhl) s =
        .next { writeByte s.hl (BitVec.ofNat 8 (w v s.fC.toNat)) s.countRead with
                fZ := decide (w v s.fC.toNat % 256 = 0), fN := false, fH := false, fC := out v, cycles := 16 })
  rule .rlc (fun v _ => v * 2 + v / 128) (fun v => decide (v ≥ 128)) ∧
  rule .rrc (fun v _ => v / 2 + v % 2 * 128) (fun v => decide (v % 2 = 1)) ∧
  rule .rl (fun v c => v * 2 + c) (fun v => decide (v ≥ 128)) ∧
  rule .rr (fun v c => v / 2 + c * 128) (fun v => decide (v % 2 = 1)) ∧
  rule .sla (fun v _ => v * 2) (fun v => decide (v ≥ 128)) ∧
  rule .sra (fun v _ => v / 2 + v / 128 * 128) (fun v => decide (v % 2 = 1)) ∧
  rule .swap (fun v _ => v % 16 * 16 + v / 16) (fun _ => false) ∧
  rule .srl (fun v _ => v / 2) (fun v => decide (v % 2 = 1))

/-- `BIT b,s`, `RES b,s` and `SET b,s` (44_rotate_shift_bit.md R203, R204, R205): encoding, result, flags, and nothing else; `BIT` of the
byte at HL reads and does not write. -/
def Obligations.BitTestResetSet : Prop :=
  let bitOn (v b : Nat) : Nat := v / 2 ^ b % 2
  (∀ (b : BitIndex) (x : Operand8) (rest : List Byte),
    decode (0xCB :: opcode 1 (bitNumber b) (operandIndex x) :: rest) = .ok (Form.bit b x) rest ∧
    decode (0xCB :: opcode 2 (bitNumber b) (operandIndex x) :: rest) = .ok (Form.res b x) rest ∧
    decode (0xCB :: opcode 3 (bitNumber b) (operandIndex x) :: rest) = .ok (Form.set b x) rest) ∧
  (∀ (b : BitIndex) (x : Reg8) (s : State), exec (Form.bit b (.reg x)) s =
    .next { s with fZ := decide (bitOn (s.reg x).toNat (bitNumber b) = 0), fN := false, fH := true, cycles := 8 }) ∧
  (∀ (b : BitIndex) (s : State), exec (Form.bit b .mhl) s =
    .next { s.countRead with fZ := decide (bitOn (readByte s s.hl).toNat (bitNumber b) = 0), fN := false, fH := true,
                             cycles := 12 }) ∧
  (∀ (b : BitIndex) (x : Reg8) (s : State), let v := (s.reg x).toNat
    exec (Form.res b (.reg x)) s =
      .next { s.setReg x (BitVec.ofNat 8 (v - bitOn v (bitNumber b) * 2 ^ bitNumber b)) with cycles := 8 }) ∧
  (∀ (b : BitIndex) (s : State), let v := (readByte s s.hl).toNat
    exec (Form.res b .mhl) s =
      .next { writeByte s.hl (BitVec.ofNat 8 (v - bitOn v (bitNumber b) * 2 ^ bitNumber b)) s.countRead with
              cycles := 16 }) ∧
  (∀ (b : BitIndex) (x : Reg8) (s : State), let v := (s.reg x).toNat
    exec (Form.set b (.reg x)) s =
      .next { s.setReg x (BitVec.ofNat 8 (v + (1 - bitOn v (bitNumber b)) * 2 ^ bitNumber b)) with cycles := 8 }) ∧
  (∀ (b : BitIndex) (s : State), let v := (readByte s s.hl).toNat
    exec (Form.set b .mhl) s =
      .next { writeByte s.hl (BitVec.ofNat 8 (v + (1 - bitOn v (bitNumber b)) * 2 ^ bitNumber b)) s.countRead with
              cycles := 16 })

/-! ## Control transfer -/

/-- `JP nn`, `JP cc,nn`, `JP HL`, `JR e` and `JR cc,e` with the condition test (45_control.md R220 to R225): encoding and whole effect;
PC on the right is past the instruction. -/
def Obligations.JumpsGoToTheirTargets : Prop :=
  (∀ s : State, condHolds .nz s = !s.fZ ∧ condHolds .z s = s.fZ ∧ condHolds .nc s = !s.fC ∧ condHolds .c s = s.fC) ∧
  (∀ (lo hi : Byte) (rest : List Byte), decode (0xC3 :: lo :: hi :: rest) = .ok (.jp_nn (word hi lo)) rest) ∧
  (∀ (nn : Word) (s : State), exec (.jp_nn nn) s = .next { s with pc := nn, cycles := 16 }) ∧
  (∀ (cc : Cond) (lo hi : Byte) (rest : List Byte),
    decode (opcode 3 (condIndex cc) 2 :: lo :: hi :: rest) = .ok (Form.jpCond cc (word hi lo)) rest) ∧
  (∀ (cc : Cond) (nn : Word) (s : State), exec (Form.jpCond cc nn) s =
    .next (if condHolds cc s then { s with pc := nn, cycles := 16 } else { s with cycles := 12 })) ∧
  (∀ rest : List Byte, decode (0xE9 :: rest) = .ok .jp_hl rest) ∧
  (∀ s : State, exec .jp_hl s = .next { s with pc := s.hl, cycles := 4 }) ∧
  (∀ (e : Byte) (rest : List Byte), decode (0x18 :: e :: rest) = .ok (.jr_e e) rest) ∧
  (∀ (e : Byte) (s : State), exec (.jr_e e) s =
    .next { s with pc := BitVec.ofInt 16 ((s.pc.toNat : Int) + e.toInt), cycles := 12 }) ∧
  (∀ (cc : Cond) (e : Byte) (rest : List Byte),
    decode (opcode 0 (condIndex cc + 4) 0 :: e :: rest) = .ok (Form.jrCond cc e) rest) ∧
  (∀ (cc : Cond) (e : Byte) (s : State), exec (Form.jrCond cc e) s =
    .next (if condHolds cc s then { s with pc := BitVec.ofInt 16 ((s.pc.toNat : Int) + e.toInt), cycles := 12 }
           else { s with cycles := 8 }))

/-- `CALL nn`, `CALL cc,nn` and `RST t` (45_control.md R226, R227, R231): encoding and whole effect; the pushed PC is past the
instruction, its high byte at the old SP - 1. -/
def Obligations.CallsPushTheReturnAddress : Prop :=
  let called (v : Word) (cyc : Nat) (s : State) : State :=
    { writeByte (s.sp - 2) (loByte s.pc) (writeByte (s.sp - 1) (hiByte s.pc) { s with sp := s.sp - 2 }) with
      pc := v, cycles := cyc }
  (∀ (lo hi : Byte) (rest : List Byte), decode (0xCD :: lo :: hi :: rest) = .ok (.call_nn (word hi lo)) rest) ∧
  (∀ (nn : Word) (s : State), exec (.call_nn nn) s = .next (called nn 24 s)) ∧
  (∀ (cc : Cond) (lo hi : Byte) (rest : List Byte),
    decode (opcode 3 (condIndex cc) 4 :: lo :: hi :: rest) = .ok (Form.callCond cc (word hi lo)) rest) ∧
  (∀ (cc : Cond) (nn : Word) (s : State), exec (Form.callCond cc nn) s =
    .next (if condHolds cc s then called nn 24 s else { s with cycles := 12 })) ∧
  (∀ (y : RstIndex) (rest : List Byte), decode (opcode 3 (rstIndex y) 7 :: rest) = .ok (Form.rst y) rest) ∧
  (∀ (y : RstIndex) (s : State), exec (Form.rst y) s = .next (called (BitVec.ofNat 16 (rstIndex y * 8)) 16 s))

/-- `RET`, `RET cc` and `RETI` (45_control.md R228, R229, R230): encoding and whole effect; only RETI touches IME. -/
def Obligations.ReturnsPopTheAddress : Prop :=
  let returned (cyc : Nat) (s : State) : State :=
    { s.countRead.countRead with pc := word (readByte s.countRead (s.sp + 1)) (readByte s s.sp), sp := s.sp + 2,
                                 cycles := cyc }
  (∀ rest : List Byte, decode (0xC9 :: rest) = .ok .ret rest) ∧
  (∀ s : State, exec .ret s = .next (returned 16 s)) ∧
  (∀ (cc : Cond) (rest : List Byte), decode (opcode 3 (condIndex cc) 0 :: rest) = .ok (Form.retCond cc) rest) ∧
  (∀ (cc : Cond) (s : State), exec (Form.retCond cc) s =
    .next (if condHolds cc s then returned 20 s else { s with cycles := 8 })) ∧
  (∀ rest : List Byte, decode (0xD9 :: rest) = .ok .reti rest) ∧
  (∀ s : State, exec .reti s = .next { returned 16 s with ime := true, eiPending := false })

/-! ## System instructions -/

/-- `NOP`, `STOP`, `DI` and `EI` (46_system.md R240, R242, R243, R244; 30_encoding.md R104): encoding and whole effect inside the CPU
step.  EI leaves IME to the next step (`Obligations.StepRunsDecodedInstruction`). -/
def Obligations.SystemInstructions : Prop :=
  (∀ rest : List Byte, decode (0x00 :: rest) = .ok .nop rest) ∧
  (∀ s : State, exec .nop s = .next { s with cycles := 4 }) ∧
  (∀ (n : Byte) (rest : List Byte), decode (0x10 :: n :: rest) = .ok (.stop n) rest) ∧
  (∀ (n : Byte) (s : State), exec (.stop n) s =
    .next { s with timer := { s.timer with sysclk := 0 }, mode := .stopped, cycles := 4 }) ∧
  (∀ rest : List Byte, decode (0xF3 :: rest) = .ok .di rest) ∧
  (∀ s : State, exec .di s = .next { s with ime := false, eiPending := false, cycles := 4 }) ∧
  (∀ rest : List Byte, decode (0xFB :: rest) = .ok .ei rest) ∧
  (∀ s : State, exec .ei s = .next { s with eiPending := true, cycles := 4 })

/-- HALT in its three cases and under the three settings of the parameter (46_system.md R241). -/
def Obligations.HaltCases : Prop :=
  (∀ rest : List Byte, decode (0x76 :: rest) = .ok .halt rest) ∧
  (∀ s : State, s.ime = true → exec .halt s = .next { s with mode := .halted, cycles := 4 }) ∧
  (∀ s : State, s.ime = false → (∀ k, k < 5 → ¬(s.ie.getLsbD k = true ∧ s.iflag.getLsbD k = true)) →
    exec .halt s = .next { s with mode := .halted, cycles := 4 }) ∧
  (∀ (s : State) (k : Nat), s.ime = false → k < 5 → s.ie.getLsbD k = true → s.iflag.getLsbD k = true →
    (s.cfg.haltPolicy = .fallthrough → exec .halt s = .next { s with cycles := 4 }) ∧
    (s.cfg.haltPolicy = .bug → exec .halt s = .next { s with haltBug := true, cycles := 4 }) ∧
    (s.cfg.haltPolicy = .refuse → exec .halt s = .refused .haltIme0Pending))

/-- Exactly the eleven bytes are unmapped, every other opcode byte is an instruction (30_encoding.md R102), and an unmapped opcode takes
the one exception (46_system.md R246): `Faulted`, the error reported with the byte and the address it was fetched from, PC one past
it, nothing else changed.  A whole step that fetches one, with or without `halt_bug`, ends so, and no peripheral advances; a pending
`EI` has taken effect before the fetch (assumption 15).  The counts `cycles` and `events` and the read counter are the model's
(assumptions 2, 17, 18). -/
def Obligations.UnmappedOpcodesFault : Prop :=
  (∀ (op b1 b2 : Byte) (rest : List Byte), ∃ i r, decode (op :: b1 :: b2 :: rest) = .ok i r ∧
    ((∃ o, i = .unmapped o) ↔
      op ∈ [0xD3, 0xDB, 0xDD, 0xE3, 0xE4, 0xEB, 0xEC, 0xED, 0xF4, 0xFC, 0xFD]) ∧
    ∀ o, i = .unmapped o → o = op ∧ r = b1 :: b2 :: rest) ∧
  (∀ (op : Byte) (s : State), exec (.unmapped op) s =
    .next { s with mode := .faulted, cycles := 0, events := .error (.unmappedOpcode op (s.pc - 1)) :: s.events }) ∧
  (∀ (s : State) (op : Byte), readByte s s.pc = op → decode [op] = .ok (.unmapped op) [] →
    (s.mode = .running ∨ (s.mode = .halted ∧ pending s ≠ 0)) → ¬(s.ime = true ∧ pending s ≠ 0) →
    step s = .next { s with mode := .faulted, ime := s.ime || s.eiPending, eiPending := false, haltBug := false,
                            pc := s.pc + 1, cycles := 0, free := { s.free with reads := s.free.reads + 1 },
                            events := .error (.unmappedOpcode op s.pc) :: s.events })

/-- The prefix byte (46_system.md R245, 30_encoding.md R103): it fetches one byte and runs the CB-table entry for it, whatever the byte,
and the decoder reads the two bytes as that entry. -/
def Obligations.PrefixRunsExtendedTable : Prop :=
  (∀ s : State, exec .prefix_cb s = exec (decodeCb (readByte s s.pc)) { s.countRead with pc := s.pc + 1 } ∧
    ∃ t, exec .prefix_cb s = .next t) ∧
  (∀ (op2 : Byte) (rest : List Byte), decode (0xCB :: op2 :: rest) = .ok (decodeCb op2) rest)

/-! ## Memory -/

/-- The address decoder, for reads and for writes of one byte (20_memory.md R42, R43): which region answers an address.  `byteAt` is
`none` where a read is a draw; a read is that byte, and the free value where there is none (assumption 2). -/
def Obligations.MemoryMap : Prop :=
  (∀ (s : State) (a : Word), let n := a.toNat
    (∀ boot, n ≤ 0x00FF → s.bootActive = true → s.cfg.boot = some boot → byteAt s a = some (Memory.get boot n)) ∧
    (n ≤ 0x3FFF → (n ≤ 0x00FF → s.bootActive = false) →
      byteAt s a = some (Memory.get s.cfg.cart.rom (romLowBank s * 16384 + n))) ∧
    (0x4000 ≤ n → n ≤ 0x7FFF → byteAt s a = some (Memory.get s.cfg.cart.rom (romHighBank s * 16384 + (n - 0x4000)))) ∧
    (0x8000 ≤ n → n ≤ 0x9FFF → byteAt s a = some (Memory.get s.vram (n - 0x8000))) ∧
    (0xA000 ≤ n → n ≤ 0xBFFF → byteAt s a =
      some (if cartRamEnabled s then Memory.get s.cartRam (ramBank s * 8192 + (n - 0xA000)) else 0xFF)) ∧
    (0xC000 ≤ n → n ≤ 0xDFFF → byteAt s a = some (Memory.get s.wram (n - 0xC000))) ∧
    (0xE000 ≤ n → n ≤ 0xFDFF → byteAt s a = some (Memory.get s.wram (n - 0xE000))) ∧
    (0xFE00 ≤ n → n ≤ 0xFE9F → byteAt s a = some (Memory.get s.oam (n - 0xFE00))) ∧
    (0xFEA0 ≤ n → n ≤ 0xFEFF → byteAt s a = none) ∧
    (0xFF00 ≤ n → n ≤ 0xFF7F → byteAt s a = ioRead s (ioReg n)) ∧
    (0xFF80 ≤ n → n ≤ 0xFFFE → byteAt s a = some (Memory.get s.hram (n - 0xFF80))) ∧
    (n = 0xFFFF → byteAt s a = some s.ie)) ∧
  (∀ (s : State) (a : Word), (∀ v, byteAt s a = some v → readByte s a = v) ∧
    (byteAt s a = none → readByte s a = Config.freeRead s.free.reads a)) ∧
  (∀ (s : State) (a : Word) (v : Byte), let n := a.toNat
    (n ≤ 0x7FFF → writeByte a v s = mapperWrite n v s) ∧
    (0x8000 ≤ n → n ≤ 0x9FFF → writeByte a v s = { s with vram := Memory.set s.vram (n - 0x8000) v }) ∧
    (0xA000 ≤ n → n ≤ 0xBFFF → writeByte a v s =
      if cartRamEnabled s then { s with cartRam := Memory.set s.cartRam (ramBank s * 8192 + (n - 0xA000)) v } else s) ∧
    (0xC000 ≤ n → n ≤ 0xDFFF → writeByte a v s = { s with wram := Memory.set s.wram (n - 0xC000) v }) ∧
    (0xE000 ≤ n → n ≤ 0xFDFF → writeByte a v s = { s with wram := Memory.set s.wram (n - 0xE000) v }) ∧
    (0xFE00 ≤ n → n ≤ 0xFE9F → writeByte a v s = { s with oam := Memory.set s.oam (n - 0xFE00) v }) ∧
    (0xFEA0 ≤ n → n ≤ 0xFEFF → writeByte a v s = s) ∧
    (0xFF00 ≤ n → n ≤ 0xFF7F → writeByte a v s = ioWrite (ioReg n) a v s) ∧
    (0xFF80 ≤ n → n ≤ 0xFFFE → writeByte a v s = { s with hram := Memory.set s.hram (n - 0xFF80) v }) ∧
    (n = 0xFFFF → writeByte a v s = { s with ie := v }))

/-- The registers of the I/O region, as the CPU reads and writes them (20_memory.md R56, R57, R59 to R61; 10_state.md R22, R23).  P1 is
read in `Obligations.JoypadReadAndPoll`, LCDC is written in `Obligations.LcdEnableGatesLineMachine`, SC in `Obligations.SerialTransfer`,
DMA in `Obligations.OamDmaCopiesOnePage`.  What a load gets from such a register is the byte it shows.  That a write to SB sends no message
is the model's choice (assumption 30). -/
def Obligations.IoRegistersReadAndWrite : Prop :=
  (∀ s : State,
    byteAt s 0xFF01 = some s.serial.sb ∧
    byteAt s 0xFF02 = some (BitVec.ofNat 8 (0x7E + s.serial.sc7.toNat * 128 + s.serial.sc0.toNat)) ∧
    byteAt s 0xFF04 = some (BitVec.ofNat 8 (s.timer.sysclk.toNat / 256)) ∧
    byteAt s 0xFF05 = some s.timer.tima ∧
    byteAt s 0xFF06 = some s.timer.tma ∧
    byteAt s 0xFF07 = some (BitVec.ofNat 8 (0xF8 + s.timer.tac.toNat)) ∧
    byteAt s 0xFF0F = some (BitVec.ofNat 8 (0xE0 + s.iflag.toNat)) ∧
    byteAt s 0xFF40 = some s.ppu.lcdc ∧
    byteAt s 0xFF42 = some s.ppu.scy ∧
    byteAt s 0xFF43 = some s.ppu.scx ∧
    byteAt s 0xFF44 = some (BitVec.ofNat 8 s.ppu.ly) ∧
    byteAt s 0xFF45 = some s.ppu.lyc ∧
    byteAt s 0xFF46 = some s.dmaReg ∧
    byteAt s 0xFF47 = some s.ppu.bgp ∧
    byteAt s 0xFF48 = some s.ppu.obp0 ∧
    byteAt s 0xFF49 = some s.ppu.obp1 ∧
    byteAt s 0xFF4A = some s.ppu.wy ∧
    byteAt s 0xFF4B = some s.ppu.wx ∧
    byteAt s 0xFF50 = some 0xFF) ∧
  (∀ (s : State) (a : Word) (v : Byte), byteAt s a = some v → readByte s a = v) ∧
  (∀ (s : State) (a : Word), 0xFF10 ≤ a.toNat → a.toNat ≤ 0xFF3F → byteAt s a = none) ∧
  (∀ (s : State) (a : Word) (v : Byte),
    a = 0xFF03 ∨ (0xFF08 ≤ a.toNat ∧ a.toNat ≤ 0xFF0E) ∨ (0xFF4C ≤ a.toNat ∧ a.toNat ≤ 0xFF4F) ∨
      (0xFF51 ≤ a.toNat ∧ a.toNat ≤ 0xFF7F) →
    byteAt s a = some 0xFF ∧ writeByte a v s = s) ∧
  (∀ (s : State) (v : Byte),
    writeByte 0xFF00 v s = { s with joypad := { s.joypad with sel := BitVec.ofNat 2 (v.toNat / 16) } } ∧
    writeByte 0xFF01 v s = { s with serial := { s.serial with sb := v } } ∧
    writeByte 0xFF04 v s = { s with timer := { s.timer with sysclk := 0 } } ∧
    writeByte 0xFF05 v s = { s with timer := { s.timer with tima := v } } ∧
    writeByte 0xFF06 v s = { s with timer := { s.timer with tma := v } } ∧
    writeByte 0xFF07 v s = { s with timer := { s.timer with tac := BitVec.ofNat 3 v.toNat } } ∧
    writeByte 0xFF0F v s = { s with iflag := BitVec.ofNat 5 v.toNat } ∧
    writeByte 0xFF41 v s = { s with ppu := { s.ppu with statEn := BitVec.ofNat 4 (v.toNat / 8) } } ∧
    writeByte 0xFF42 v s = { s with ppu := { s.ppu with scy := v } } ∧
    writeByte 0xFF43 v s = { s with ppu := { s.ppu with scx := v } } ∧
    writeByte 0xFF44 v s = s ∧
    writeByte 0xFF45 v s = { s with ppu := { s.ppu with lyc := v } } ∧
    writeByte 0xFF47 v s = { s with ppu := { s.ppu with bgp := v } } ∧
    writeByte 0xFF48 v s = { s with ppu := { s.ppu with obp0 := v } } ∧
    writeByte 0xFF49 v s = { s with ppu := { s.ppu with obp1 := v } } ∧
    writeByte 0xFF4A v s = { s with ppu := { s.ppu with wy := v } } ∧
    writeByte 0xFF4B v s = { s with ppu := { s.ppu with wx := v } } ∧
    writeByte 0xFF50 v s = { s with bootActive := s.bootActive && decide (v = 0) }) ∧
  (∀ (s : State) (a : Word) (v : Byte), 0xFF10 ≤ a.toNat → a.toNat ≤ 0xFF3F →
    writeByte a v s = { s with events := .audioWrite a v :: s.events })

/-- The cartridge mappers (20_memory.md R52, R71, R73, R74, R75): what a write below 0x8000 does and which banks the windows show. -/
def Obligations.MapperSelectsBanks : Prop :=
  (∀ (s : State) (n : Nat) (v : Byte), s.cfg.cart.mapper = .none →
    mapperWrite n v s = s ∧ romLowBank s = 0 ∧ romHighBank s = 1 ∧ ramBank s = 0 ∧
      cartRamEnabled s = decide (s.cfg.cart.ramBanks > 0)) ∧
  (∀ (s : State) (n : Nat) (v : Byte), s.cfg.cart.mapper = .mbc1 →
    (n ≤ 0x1FFF → mapperWrite n v s =
      { s with mapper := { s.mapper with ramEnable := decide (v.toNat % 16 = 0xA) } }) ∧
    (0x2000 ≤ n → n ≤ 0x3FFF → mapperWrite n v s =
      { s with mapper := { s.mapper with
          bank1 := if v.toNat % 32 = 0 then 1 else BitVec.ofNat 5 (v.toNat % 32) } }) ∧
    (0x4000 ≤ n → n ≤ 0x5FFF → mapperWrite n v s =
      { s with mapper := { s.mapper with bank2 := BitVec.ofNat 2 (v.toNat % 4) } }) ∧
    (0x6000 ≤ n → n ≤ 0x7FFF → mapperWrite n v s =
      { s with mapper := { s.mapper with bankMode := decide (v.toNat % 2 = 1) } }) ∧
    romHighBank s = (s.mapper.bank2.toNat * 32 + s.mapper.bank1.toNat) % s.cfg.cart.romBanks ∧
    romLowBank s = (if s.mapper.bankMode then s.mapper.bank2.toNat * 32 % s.cfg.cart.romBanks else 0) ∧
    ramBank s = (if s.mapper.bankMode then s.mapper.bank2.toNat % s.cfg.cart.ramBanks else 0) ∧
    cartRamEnabled s = (s.mapper.ramEnable && decide (s.cfg.cart.ramBanks > 0)))

/-- The OAM copy (20_memory.md R58): a write of `v` to 0xFF46 stores `v` there and puts into each of the 160 bytes of OAM what a read
of `v * 256 + i` gives at that moment; nothing else changes.  The read counter is the model's (assumption 2). -/
def Obligations.OamDmaCopiesOnePage : Prop :=
  ∀ (s : State) (v : Byte), s.Inv → let t := writeByte 0xFF46 v s
    t = { s with dmaReg := v, oam := t.oam, free := { s.free with reads := s.free.reads + 160 } } ∧
    ∀ i, i < 160 → Memory.get t.oam i =
      readByte { s with dmaReg := v, free := { s.free with reads := s.free.reads + i } }
        (BitVec.ofNat 16 (v.toNat * 256 + i))

/-! ## Peripherals -/

/-- One tick of the timer (60_exceptions.md R271 to R274): the divider counts; a pending reload takes TMA and sets IF bit 2; then, if
enabled, the prescaler counts and, on reaching the divisor, TIMA counts, its overflow leaving 0 and the reload pending.  Nothing else
changes. -/
def Obligations.TimerTickCounts : Prop :=
  ∀ s : State,
    let divisor := if s.timer.tac.toNat % 4 = 0 then 1024 else if s.timer.tac.toNat % 4 = 1 then 16
                   else if s.timer.tac.toNat % 4 = 2 then 64 else 256
    let enabled := decide (s.timer.tac.toNat ≥ 4)
    let counts := enabled && decide (s.timer.sub + 1 ≥ divisor)
    let tima := if s.timer.reloadPending then s.timer.tma else s.timer.tima
    timerTick s =
      { s with
        iflag := if s.timer.reloadPending then s.iflag ||| 0b00100 else s.iflag
        timer := { s.timer with
          sysclk := BitVec.ofNat 16 (s.timer.sysclk.toNat + 1)
          sub := if counts then 0 else if enabled then s.timer.sub + 1 else s.timer.sub
          tima := if counts then BitVec.ofNat 8 (tima.toNat + 1) else tima
          reloadPending := counts && decide (tima = 0xFF) } }

/-- From a cleared prescaler, N ticks with N the divisor count TIMA by exactly 1 and no fewer do (60_exceptions.md R273, R274); when that
count overflows, TIMA holds 0 with no interrupt yet, and the tick after it reloads TMA and sets IF bit 2 (R272). -/
def Obligations.TimerCountsOncePerDivisor : Prop :=
  ∀ (s : State) (m : Nat), s.timer.tac.getLsbD 2 = true → s.timer.sub = 0 → s.timer.reloadPending = false →
    (m < timaDivisor s.timer.tac →
      (timerStep m s).timer.tima = s.timer.tima ∧ (timerStep m s).timer.sub = m ∧ (timerStep m s).iflag = s.iflag) ∧
    (s.timer.tima ≠ 0xFF → let t := timerStep (timaDivisor s.timer.tac) s
      t.timer.tima = s.timer.tima + 1 ∧ t.timer.sub = 0 ∧ t.timer.reloadPending = false ∧ t.iflag = s.iflag) ∧
    (s.timer.tima = 0xFF → let t := timerStep (timaDivisor s.timer.tac) s
      t.timer.tima = 0 ∧ t.timer.reloadPending = true ∧ t.iflag = s.iflag ∧
      (timerTick t).timer.tima = s.timer.tma ∧ (timerTick t).timer.reloadPending = false ∧
      (timerTick t).iflag = s.iflag ||| 0b00100)

/-- LCDC bit 7 (60_exceptions.md R281): while it is 0 no tick does anything, LY and STAT bits 1 and 0 read 0; a write that clears it
stops the line machine at the start, a write that sets it starts line 0, and any other write leaves the line machine; none of them
raises an interrupt.  The drawn length is a free value (assumption 11). -/
def Obligations.LcdEnableGatesLineMachine : Prop :=
  (∀ (s : State) (n : Nat), s.ppu.lcdc.getLsbD 7 = false → ppuStep n s = s) ∧
  (∀ s : State, s.Inv → s.ppu.lcdc.getLsbD 7 = false →
    byteAt s 0xFF44 = some 0 ∧ ∃ v, byteAt s 0xFF41 = some v ∧ v.toNat % 4 = 0) ∧
  (∀ (s : State) (v : Byte), s.ppu.lcdc.getLsbD 7 = true → v.getLsbD 7 = false →
    writeByte 0xFF40 v s = { s with ppu := { s.ppu with lcdc := v, ly := 0, dot := 0, mode := .hblank } }) ∧
  (∀ (s : State) (v : Byte), s.ppu.lcdc.getLsbD 7 = false → v.getLsbD 7 = true →
    writeByte 0xFF40 v s =
      { s with ppu := { s.ppu with lcdc := v, ly := 0, dot := 0, mode := .oamScan,
                                   m3len := Config.mode3Len s.free.lines 0 },
               free := { s.free with lines := s.free.lines + 1 } }) ∧
  (∀ (s : State) (v : Byte), s.ppu.lcdc.getLsbD 7 = v.getLsbD 7 →
    writeByte 0xFF40 v s = { s with ppu := { s.ppu with lcdc := v } })

/-- One tick of the PPU with the LCD on (60_exceptions.md R282 to R286): the position, the mode as a function of it, and exactly which
events set IF bits 0 and 1; and STAT as it reads (R287). -/
def Obligations.PpuTickMovesAndRaises : Prop :=
  (∀ s : State, s.ppu.lcdc.getLsbD 7 = true →
    let t := ppuTick s
    let newLine := decide (s.ppu.dot + 1 = 456)
    let entered (m : PpuMode) := decide (t.ppu.mode = m ∧ s.ppu.mode ≠ m)
    t.ppu = { s.ppu with ly := t.ppu.ly, dot := t.ppu.dot, mode := t.ppu.mode, m3len := t.ppu.m3len } ∧
    t.ppu.dot = (if newLine then 0 else s.ppu.dot + 1) ∧
    t.ppu.ly = (if newLine then (s.ppu.ly + 1) % 154 else s.ppu.ly) ∧
    (¬(newLine = true ∧ t.ppu.ly ≤ 143) → t.ppu.m3len = s.ppu.m3len) ∧
    (newLine = true ∧ t.ppu.ly ≤ 143 → 172 ≤ t.ppu.m3len ∧ t.ppu.m3len ≤ 289) ∧
    t.ppu.mode = (if t.ppu.ly ≥ 144 then .vblank else if t.ppu.dot < 80 then .oamScan
                  else if t.ppu.dot < 80 + t.ppu.m3len then .transfer else .hblank) ∧
    t.iflag.getLsbD 0 = (s.iflag.getLsbD 0 || entered .vblank) ∧
    t.iflag.getLsbD 1 = (s.iflag.getLsbD 1 ||
      (newLine && decide (t.ppu.ly = s.ppu.lyc.toNat) && s.ppu.statEn.getLsbD 3) ||
      (entered .oamScan && s.ppu.statEn.getLsbD 2) || (entered .hblank && s.ppu.statEn.getLsbD 0) ||
      (entered .vblank && s.ppu.statEn.getLsbD 1)) ∧
    (∀ k, 2 ≤ k → t.iflag.getLsbD k = s.iflag.getLsbD k) ∧
    t.events = (if entered .vblank then .screenDraw :: s.events else s.events) ∧
    t = { s with ppu := t.ppu, iflag := t.iflag, free := t.free, events := t.events }) ∧
  (∀ s : State, byteAt s 0xFF41 =
    some (BitVec.ofNat 8 (0x80 + s.ppu.statEn.toNat * 8 + (if s.ppu.ly = s.ppu.lyc.toNat then 4 else 0) +
      (if s.ppu.mode = .hblank then 0 else if s.ppu.mode = .vblank then 1 else if s.ppu.mode = .oamScan then 2 else 3))))

/-- With the LCD on, n ticks move the position in the frame by n modulo 70,224, so a frame of 70,224 ticks returns it
(60_exceptions.md R282, R290). -/
def Obligations.FramePositionAdvances : Prop :=
  ∀ (s : State) (n : Nat), s.Inv → s.ppu.lcdc.getLsbD 7 = true →
    framePosition (ppuStep n s).ppu = (framePosition s.ppu + n) % 70224 ∧ (ppuStep n s).ppu.lcdc = s.ppu.lcdc

/-- Exactly one v-blank a frame (60_exceptions.md R285, R290): from any position, 70,224 ticks with the LCD on signal exactly one
complete frame and leave the VBlank bit of IF set; the ticks before the one that next reaches line 144, in this frame or, from a start
inside v-blank, in the next, signal none and leave the bit as it was. -/
def Obligations.OneVBlankPerFrame : Prop :=
  ∀ s : State, s.Inv → s.ppu.lcdc.getLsbD 7 = true →
    (ppuStep 70224 s).events.count .screenDraw = s.events.count .screenDraw + 1 ∧
    (ppuStep 70224 s).iflag.getLsbD 0 = true ∧
    ∀ n, framePosition s.ppu + n < (if framePosition s.ppu < 65664 then 65664 else 70224 + 65664) →
      (ppuStep n s).events = s.events ∧ (ppuStep n s).iflag.getLsbD 0 = s.iflag.getLsbD 0

/-- P1 as it reads (60_exceptions.md R300), and what the polls of one step do (R301): the timer is reduced by the period as often as it
fits, each time one more poll is made, and IF bit 4 is set exactly when some poll finds a button pressed that was not pressed at the
poll before.  The numbering of the polls is the model's (assumption 12). -/
def Obligations.JoypadReadAndPoll : Prop :=
  (∀ s : State, let held := s.joypad.buttonsPrev
    let line (direction action : Bool) : Nat :=
      if (s.joypad.sel.getLsbD 0 = false ∧ direction = true) ∨ (s.joypad.sel.getLsbD 1 = false ∧ action = true)
      then 0 else 1
    byteAt s 0xFF00 = some (BitVec.ofNat 8 (0xC0 + s.joypad.sel.toNat * 16 + line held.down held.start * 8 +
      line held.up held.select * 4 + line held.left held.b * 2 + line held.right held.a))) ∧
  (∀ (s : State) (c : Nat), s.cfg.inputPollPeriod > 0 → let t := inputStep c s
    let polls := (s.joypad.inputTimer + c) / s.cfg.inputPollPeriod
    let held (b : Nat) : Buttons := if b = 0 then s.joypad.buttonsPrev else pollButtons (s.free.polls + (b - 1))
    t = { s with joypad := t.joypad, iflag := t.iflag, free := t.free } ∧
    t.joypad.sel = s.joypad.sel ∧
    t.joypad.inputTimer = (s.joypad.inputTimer + c) % s.cfg.inputPollPeriod ∧
    t.free = { s.free with polls := s.free.polls + polls } ∧
    t.joypad.buttonsPrev = held polls ∧
    (t.iflag.getLsbD 4 = true ↔ s.iflag.getLsbD 4 = true ∨ ∃ k, k < polls ∧ pressEdge (held k) (held (k + 1)) = true) ∧
    (∀ k, k ≠ 4 → t.iflag.getLsbD k = s.iflag.getLsbD k))

/-- The serial interface: a write to SC stores bits 7 and 0 and, with bit 7 set, emits the data byte (60_exceptions.md R302); the host's
completion is made only while a transfer runs, and then stores the byte, ends the transfer and sets IF bit 3 (R303).  That the model
offers the move at the end of each step is its choice (assumption 13). -/
def Obligations.SerialTransfer : Prop :=
  (∀ (s : State) (v : Byte), writeByte 0xFF02 v s =
    { s with serial := { s.serial with sc7 := decide (v.toNat ≥ 128), sc0 := decide (v.toNat % 2 = 1) },
             events := if v.toNat ≥ 128 then .serialOut s.serial.sb :: s.events else s.events }) ∧
  (∀ s : State, s.serial.sc7 = false → serialMove s = s) ∧
  (∀ s : State, s.serial.sc7 = true →
    (Config.serialIn s.free.serial = none →
      serialMove s = { s with free := { s.free with serial := s.free.serial + 1 } }) ∧
    (∀ b, Config.serialIn s.free.serial = some b → serialMove s =
      { s with serial := { s.serial with sb := b, sc7 := false }, iflag := s.iflag ||| 0b01000,
               free := { s.free with serial := s.free.serial + 1 } }))

/-! ## Before a session -/

/-- The load-time checks (20_memory.md R49, R71, R72, R76, R77; 60_exceptions.md R252): a session that starts is in the reset state of a
configuration that passes them, with a mapper of the header's type; a mapper code above 3 is refused as unsupported, a boot image of
another length than 256 as malformed.  How the remaining header codes are refused is the model's choice (assumption 20). -/
def Obligations.LoadTimeRefusals : Prop :=
  (∀ (rom ram : List Byte) (boot : Option (List Byte)) (policy : HaltPolicy) (period : Nat) (s : State),
    period > 0 → startSession rom ram boot policy period = .ok s →
    ∃ cfg, s = State.resetWith cfg ∧ configValid cfg = true ∧
      rom.length = 16384 * cfg.cart.romBanks ∧ ram.length = 8192 * cfg.cart.ramBanks ∧
      (cfg.cart.mapper = .none ↔ (rom.getD 0x0147 0).toNat = 0) ∧ (cfg.boot = none ↔ boot = none) ∧
      (∀ k, Memory.get cfg.cart.rom k = rom.getD k 0) ∧ (∀ k, Memory.get cfg.cart.ramInit k = ram.getD k 0)) ∧
  (∀ (rom ram : List Byte) (boot : Option (List Byte)) (policy : HaltPolicy) (period : Nat),
    (rom.getD 0x0147 0).toNat > 3 → startSession rom ram boot policy period = .error .unsupportedMapper) ∧
  (∀ (rom ram bs : List Byte) (policy : HaltPolicy) (period : Nat) (cart : Cartridge),
    loadCartridge rom ram = .ok cart → bs.length ≠ 256 →
    startSession rom ram (some bs) policy period = .error .malformedImage)

end Statements
end

