-- ==== Sys2Proof/Laws/Memory.lean ====
section
/-! SUPPORT. The byte memories: a read after a write, and that every memory operation keeps the canonical form. -/

namespace Sys2Proof

@[simp] theorem Memory.get_nil (k : Nat) : Memory.get [] k = Memory.unlisted := rfl

theorem Memory.get_cell_self (k : Nat) (v : Byte) (m : Memory) (h : Memory.get m k = Memory.unlisted) :
    Memory.get (Memory.cell k v m) k = v := by
  unfold Memory.cell
  split
  · rename_i hv; rw [h, hv]
  · simp [Memory.get]

theorem Memory.get_cell_ne (k j : Nat) (v : Byte) (m : Memory) (h : k ≠ j) :
    Memory.get (Memory.cell k v m) j = Memory.get m j := by
  unfold Memory.cell
  split
  · rfl
  · simp [Memory.get, h]

/-- Above `lo` in a canonical memory nothing is listed at `lo` or below. -/
theorem Memory.get_le (n lo k : Nat) (m : Memory) (h : Memory.wfFrom n (some lo) m = true) (hk : k ≤ lo) :
    Memory.get m k = Memory.unlisted := by
  induction m generalizing lo with
  | nil => rfl
  | cons c rest ih =>
    obtain ⟨j, v⟩ := c
    simp only [Memory.wfFrom, Bool.and_eq_true, decide_eq_true_eq] at h
    have hj : j ≠ k := by omega
    simpa [Memory.get, hj] using ih j h.2 (by omega)

/-- A canonical memory stays canonical with a lower bound left out. -/
theorem Memory.wfFrom_none (n : Nat) (lo : Option Nat) (m : Memory) (h : Memory.wfFrom n lo m = true) :
    Memory.wfFrom n none m = true := by
  cases m with
  | nil => rfl
  | cons c rest =>
    obtain ⟨j, v⟩ := c
    simp only [Memory.wfFrom, Bool.and_eq_true] at h ⊢
    exact ⟨⟨h.1.1, trivial⟩, h.2⟩

/-- Nothing is listed at or above the size. -/
theorem Memory.get_ge (n k : Nat) (lo : Option Nat) (m : Memory) (h : Memory.wfFrom n lo m = true) (hk : n ≤ k) :
    Memory.get m k = Memory.unlisted := by
  induction m generalizing lo with
  | nil => rfl
  | cons c rest ih =>
    obtain ⟨j, v⟩ := c
    simp only [Memory.wfFrom, Bool.and_eq_true, decide_eq_true_eq] at h
    have hj : j ≠ k := by omega
    simpa [Memory.get, hj] using ih (some j) h.2

theorem Memory.get_set_from (n k j : Nat) (v : Byte) (lo : Option Nat) (m : Memory) (h : Memory.wfFrom n lo m = true) :
    Memory.get (Memory.set m k v) j = if j = k then v else Memory.get m j := by
  induction m generalizing lo with
  | nil =>
    by_cases hjk : j = k
    · subst hjk; simpa [Memory.set] using Memory.get_cell_self j v [] rfl
    · simpa [Memory.set, hjk] using Memory.get_cell_ne k j v [] (Ne.symm hjk)
  | cons c rest ih =>
    obtain ⟨i, w⟩ := c
    have hr : Memory.wfFrom n (some i) rest = true := by
      simp only [Memory.wfFrom, Bool.and_eq_true] at h; exact h.2
    unfold Memory.set
    split
    · rename_i hki
      by_cases hjk : j = k
      · subst hjk
        rw [if_pos rfl]
        refine Memory.get_cell_self _ _ _ ?_
        have : i ≠ j := by omega
        simpa [Memory.get, this] using Memory.get_le n i j rest hr (by omega)
      · rw [if_neg hjk, Memory.get_cell_ne _ _ _ _ (Ne.symm hjk)]
    · split
      · rename_i hki hik
        subst hik
        by_cases hjk : j = k
        · subst hjk
          rw [if_pos rfl]
          exact Memory.get_cell_self _ _ _ (Memory.get_le n j j rest hr (le_refl _))
        · rw [if_neg hjk, Memory.get_cell_ne _ _ _ _ (Ne.symm hjk)]
          simp [Memory.get, Ne.symm hjk]
      · by_cases hij : i = j
        · subst hij
          have : i ≠ k := by omega
          simp [Memory.get, this]
        · simp [Memory.get, hij, ih (some i) hr]

/-- A read after a write (20_memory.md R43, R80): the byte written, and every other byte as before. -/
theorem Memory.get_set (n k j : Nat) (v : Byte) (m : Memory) (h : Memory.wf n m = true) :
    Memory.get (Memory.set m k v) j = if j = k then v else Memory.get m j :=
  Memory.get_set_from n k j v none m h

theorem Memory.cell_wf (n k : Nat) (v : Byte) (lo : Option Nat) (m : Memory) (hm : Memory.wfFrom n (some k) m = true)
    (hlo : ∀ j, lo = some j → j < k) (hk : k < n) (hm' : Memory.wfFrom n lo m = true) :
    Memory.wfFrom n lo (Memory.cell k v m) = true := by
  unfold Memory.cell
  split
  · exact hm'
  · rename_i hv
    cases lo with
    | none => simp [Memory.wfFrom, hk, hv, hm]
    | some j => simp [Memory.wfFrom, hk, hv, hm, hlo j rfl]

theorem Memory.wfFrom_weaken (n : Nat) (j k : Nat) (m : Memory) (h : Memory.wfFrom n (some k) m = true) (hj : j ≤ k) :
    Memory.wfFrom n (some j) m = true := by
  cases m with
  | nil => rfl
  | cons c rest =>
    obtain ⟨i, v⟩ := c
    simp only [Memory.wfFrom, Bool.and_eq_true, decide_eq_true_eq] at h ⊢
    exact ⟨⟨h.1.1, by omega⟩, h.2⟩

theorem Memory.wfFrom_lower (n : Nat) (lo : Option Nat) (k : Nat) (m : Memory) (h : Memory.wfFrom n (some k) m = true)
    (hlo : ∀ j, lo = some j → j < k) : Memory.wfFrom n lo m = true := by
  cases lo with
  | none => exact Memory.wfFrom_none n _ m h
  | some j => exact Memory.wfFrom_weaken n j k m h (le_of_lt (hlo j rfl))

theorem Memory.set_wf_from (n k : Nat) (v : Byte) (lo : Option Nat) (m : Memory) (h : Memory.wfFrom n lo m = true)
    (hlo : ∀ j, lo = some j → j < k) (hk : k < n) : Memory.wfFrom n lo (Memory.set m k v) = true := by
  induction m generalizing lo with
  | nil => exact Memory.cell_wf n k v lo [] rfl hlo hk rfl
  | cons c rest ih =>
    obtain ⟨i, w⟩ := c
    have hi : (i < n ∧ w ≠ Memory.unlisted) ∧ (∀ j, lo = some j → j < i) ∧ Memory.wfFrom n (some i) rest = true := by
      simp only [Memory.wfFrom, Bool.and_eq_true, decide_eq_true_eq] at h
      refine ⟨h.1.1, ?_, h.2⟩
      intro j hj; subst hj; simpa using h.1.2
    obtain ⟨⟨hin, hw⟩, hlo', hr⟩ := hi
    unfold Memory.set
    split
    · rename_i hki
      refine Memory.cell_wf n k v lo _ ?_ hlo hk h
      simp [Memory.wfFrom, hin, hw, hki, hr]
    · split
      · rename_i _ hik
        subst hik
        exact Memory.cell_wf n k v lo rest hr hlo hk (Memory.wfFrom_lower n lo k rest hr hlo)
      · rename_i hki hik
        have hrec := ih (some i) hr (by intro j hj; injection hj with hj; omega)
        cases lo with
        | none => simp [Memory.wfFrom, hin, hw, hrec]
        | some j => simp [Memory.wfFrom, hin, hw, hrec, hlo' j rfl]

/-- Writing inside the memory keeps the canonical form. -/
theorem Memory.set_wf (n k : Nat) (v : Byte) (m : Memory) (h : Memory.wf n m = true) (hk : k < n) :
    Memory.wf n (Memory.set m k v) = true :=
  Memory.set_wf_from n k v none m h (by intro j hj; cases hj) hk

theorem Memory.ofBytes_wf_from (n k : Nat) (bs : List Byte) (lo : Option Nat) (hlo : ∀ j, lo = some j → j < k)
    (h : k + bs.length ≤ n) : Memory.wfFrom n lo (Memory.ofBytes k bs) = true := by
  induction bs generalizing k lo with
  | nil => rfl
  | cons b rest ih =>
    have hl : k + 1 + rest.length ≤ n := by simp at h; omega
    refine Memory.cell_wf n k b lo _ (ih (k + 1) (some k) (by intro j hj; injection hj with hj; omega) hl) hlo
      (by simp at h; omega) (ih (k + 1) lo (by intro j hj; have := hlo j hj; omega) hl)

/-- A loaded image is canonical. -/
theorem Memory.ofBytes_wf (bs : List Byte) : Memory.wf bs.length (Memory.ofBytes 0 bs) = true :=
  Memory.ofBytes_wf_from _ 0 bs none (by intro j hj; cases hj) (by omega)

@[simp] theorem Memory.nil_wf (n : Nat) : Memory.wf n [] = true := rfl

end Sys2Proof
end

