-- ==== Sys2Proof/Laws/State.lean ====
section
/-! SUPPORT. One lemma per field per named update of the state, true by `rfl`, for simp: what each update writes and what it leaves
(10_state.md R10 to R21). -/

namespace Sys2Proof.Machine

/-! ### `setFlags` -/

@[simp] theorem setFlags_cfg (s : State) (z n h c : Bool) :
    (s.setFlags z n h c).cfg = s.cfg := rfl
@[simp] theorem setFlags_a (s : State) (z n h c : Bool) :
    (s.setFlags z n h c).a = s.a := rfl
@[simp] theorem setFlags_b (s : State) (z n h c : Bool) :
    (s.setFlags z n h c).b = s.b := rfl
@[simp] theorem setFlags_c (s : State) (z n h c : Bool) :
    (s.setFlags z n h c).c = s.c := rfl
@[simp] theorem setFlags_d (s : State) (z n h c : Bool) :
    (s.setFlags z n h c).d = s.d := rfl
@[simp] theorem setFlags_e (s : State) (z n h c : Bool) :
    (s.setFlags z n h c).e = s.e := rfl
@[simp] theorem setFlags_h (s : State) (z n h c : Bool) :
    (s.setFlags z n h c).h = s.h := rfl
@[simp] theorem setFlags_l (s : State) (z n h c : Bool) :
    (s.setFlags z n h c).l = s.l := rfl
@[simp] theorem setFlags_fZ (s : State) (z n h c : Bool) :
    (s.setFlags z n h c).fZ = z := rfl
@[simp] theorem setFlags_fN (s : State) (z n h c : Bool) :
    (s.setFlags z n h c).fN = n := rfl
@[simp] theorem setFlags_fH (s : State) (z n h c : Bool) :
    (s.setFlags z n h c).fH = h := rfl
@[simp] theorem setFlags_fC (s : State) (z n h c : Bool) :
    (s.setFlags z n h c).fC = c := rfl
@[simp] theorem setFlags_sp (s : State) (z n h c : Bool) :
    (s.setFlags z n h c).sp = s.sp := rfl
@[simp] theorem setFlags_pc (s : State) (z n h c : Bool) :
    (s.setFlags z n h c).pc = s.pc := rfl
@[simp] theorem setFlags_ime (s : State) (z n h c : Bool) :
    (s.setFlags z n h c).ime = s.ime := rfl
@[simp] theorem setFlags_eiPending (s : State) (z n h c : Bool) :
    (s.setFlags z n h c).eiPending = s.eiPending := rfl
@[simp] theorem setFlags_mode (s : State) (z n h c : Bool) :
    (s.setFlags z n h c).mode = s.mode := rfl
@[simp] theorem setFlags_haltBug (s : State) (z n h c : Bool) :
    (s.setFlags z n h c).haltBug = s.haltBug := rfl
@[simp] theorem setFlags_ie (s : State) (z n h c : Bool) :
    (s.setFlags z n h c).ie = s.ie := rfl
@[simp] theorem setFlags_iflag (s : State) (z n h c : Bool) :
    (s.setFlags z n h c).iflag = s.iflag := rfl
@[simp] theorem setFlags_timer (s : State) (z n h c : Bool) :
    (s.setFlags z n h c).timer = s.timer := rfl
@[simp] theorem setFlags_ppu (s : State) (z n h c : Bool) :
    (s.setFlags z n h c).ppu = s.ppu := rfl
@[simp] theorem setFlags_dmaReg (s : State) (z n h c : Bool) :
    (s.setFlags z n h c).dmaReg = s.dmaReg := rfl
@[simp] theorem setFlags_bootActive (s : State) (z n h c : Bool) :
    (s.setFlags z n h c).bootActive = s.bootActive := rfl
@[simp] theorem setFlags_mapper (s : State) (z n h c : Bool) :
    (s.setFlags z n h c).mapper = s.mapper := rfl
@[simp] theorem setFlags_vram (s : State) (z n h c : Bool) :
    (s.setFlags z n h c).vram = s.vram := rfl
@[simp] theorem setFlags_wram (s : State) (z n h c : Bool) :
    (s.setFlags z n h c).wram = s.wram := rfl
@[simp] theorem setFlags_oam (s : State) (z n h c : Bool) :
    (s.setFlags z n h c).oam = s.oam := rfl
@[simp] theorem setFlags_hram (s : State) (z n h c : Bool) :
    (s.setFlags z n h c).hram = s.hram := rfl
@[simp] theorem setFlags_cartRam (s : State) (z n h c : Bool) :
    (s.setFlags z n h c).cartRam = s.cartRam := rfl
@[simp] theorem setFlags_joypad (s : State) (z n h c : Bool) :
    (s.setFlags z n h c).joypad = s.joypad := rfl
@[simp] theorem setFlags_serial (s : State) (z n h c : Bool) :
    (s.setFlags z n h c).serial = s.serial := rfl
@[simp] theorem setFlags_cycles (s : State) (z n h c : Bool) :
    (s.setFlags z n h c).cycles = s.cycles := rfl
@[simp] theorem setFlags_free (s : State) (z n h c : Bool) :
    (s.setFlags z n h c).free = s.free := rfl
@[simp] theorem setFlags_events (s : State) (z n h c : Bool) :
    (s.setFlags z n h c).events = s.events := rfl

/-! ### `setAluFlags` -/

@[simp] theorem setAluFlags_cfg (s : State) (o : AluOut) :
    (s.setAluFlags o).cfg = s.cfg := rfl
@[simp] theorem setAluFlags_a (s : State) (o : AluOut) :
    (s.setAluFlags o).a = s.a := rfl
@[simp] theorem setAluFlags_b (s : State) (o : AluOut) :
    (s.setAluFlags o).b = s.b := rfl
@[simp] theorem setAluFlags_c (s : State) (o : AluOut) :
    (s.setAluFlags o).c = s.c := rfl
@[simp] theorem setAluFlags_d (s : State) (o : AluOut) :
    (s.setAluFlags o).d = s.d := rfl
@[simp] theorem setAluFlags_e (s : State) (o : AluOut) :
    (s.setAluFlags o).e = s.e := rfl
@[simp] theorem setAluFlags_h (s : State) (o : AluOut) :
    (s.setAluFlags o).h = s.h := rfl
@[simp] theorem setAluFlags_l (s : State) (o : AluOut) :
    (s.setAluFlags o).l = s.l := rfl
@[simp] theorem setAluFlags_fZ (s : State) (o : AluOut) :
    (s.setAluFlags o).fZ = o.z := rfl
@[simp] theorem setAluFlags_fN (s : State) (o : AluOut) :
    (s.setAluFlags o).fN = o.n := rfl
@[simp] theorem setAluFlags_fH (s : State) (o : AluOut) :
    (s.setAluFlags o).fH = o.h := rfl
@[simp] theorem setAluFlags_fC (s : State) (o : AluOut) :
    (s.setAluFlags o).fC = o.c := rfl
@[simp] theorem setAluFlags_sp (s : State) (o : AluOut) :
    (s.setAluFlags o).sp = s.sp := rfl
@[simp] theorem setAluFlags_pc (s : State) (o : AluOut) :
    (s.setAluFlags o).pc = s.pc := rfl
@[simp] theorem setAluFlags_ime (s : State) (o : AluOut) :
    (s.setAluFlags o).ime = s.ime := rfl
@[simp] theorem setAluFlags_eiPending (s : State) (o : AluOut) :
    (s.setAluFlags o).eiPending = s.eiPending := rfl
@[simp] theorem setAluFlags_mode (s : State) (o : AluOut) :
    (s.setAluFlags o).mode = s.mode := rfl
@[simp] theorem setAluFlags_haltBug (s : State) (o : AluOut) :
    (s.setAluFlags o).haltBug = s.haltBug := rfl
@[simp] theorem setAluFlags_ie (s : State) (o : AluOut) :
    (s.setAluFlags o).ie = s.ie := rfl
@[simp] theorem setAluFlags_iflag (s : State) (o : AluOut) :
    (s.setAluFlags o).iflag = s.iflag := rfl
@[simp] theorem setAluFlags_timer (s : State) (o : AluOut) :
    (s.setAluFlags o).timer = s.timer := rfl
@[simp] theorem setAluFlags_ppu (s : State) (o : AluOut) :
    (s.setAluFlags o).ppu = s.ppu := rfl
@[simp] theorem setAluFlags_dmaReg (s : State) (o : AluOut) :
    (s.setAluFlags o).dmaReg = s.dmaReg := rfl
@[simp] theorem setAluFlags_bootActive (s : State) (o : AluOut) :
    (s.setAluFlags o).bootActive = s.bootActive := rfl
@[simp] theorem setAluFlags_mapper (s : State) (o : AluOut) :
    (s.setAluFlags o).mapper = s.mapper := rfl
@[simp] theorem setAluFlags_vram (s : State) (o : AluOut) :
    (s.setAluFlags o).vram = s.vram := rfl
@[simp] theorem setAluFlags_wram (s : State) (o : AluOut) :
    (s.setAluFlags o).wram = s.wram := rfl
@[simp] theorem setAluFlags_oam (s : State) (o : AluOut) :
    (s.setAluFlags o).oam = s.oam := rfl
@[simp] theorem setAluFlags_hram (s : State) (o : AluOut) :
    (s.setAluFlags o).hram = s.hram := rfl
@[simp] theorem setAluFlags_cartRam (s : State) (o : AluOut) :
    (s.setAluFlags o).cartRam = s.cartRam := rfl
@[simp] theorem setAluFlags_joypad (s : State) (o : AluOut) :
    (s.setAluFlags o).joypad = s.joypad := rfl
@[simp] theorem setAluFlags_serial (s : State) (o : AluOut) :
    (s.setAluFlags o).serial = s.serial := rfl
@[simp] theorem setAluFlags_cycles (s : State) (o : AluOut) :
    (s.setAluFlags o).cycles = s.cycles := rfl
@[simp] theorem setAluFlags_free (s : State) (o : AluOut) :
    (s.setAluFlags o).free = s.free := rfl
@[simp] theorem setAluFlags_events (s : State) (o : AluOut) :
    (s.setAluFlags o).events = s.events := rfl

/-! ### `setHl` -/

@[simp] theorem setHl_cfg (s : State) (v : Word) :
    (s.setHl v).cfg = s.cfg := rfl
@[simp] theorem setHl_a (s : State) (v : Word) :
    (s.setHl v).a = s.a := rfl
@[simp] theorem setHl_b (s : State) (v : Word) :
    (s.setHl v).b = s.b := rfl
@[simp] theorem setHl_c (s : State) (v : Word) :
    (s.setHl v).c = s.c := rfl
@[simp] theorem setHl_d (s : State) (v : Word) :
    (s.setHl v).d = s.d := rfl
@[simp] theorem setHl_e (s : State) (v : Word) :
    (s.setHl v).e = s.e := rfl
@[simp] theorem setHl_h (s : State) (v : Word) :
    (s.setHl v).h = hiByte v := rfl
@[simp] theorem setHl_l (s : State) (v : Word) :
    (s.setHl v).l = loByte v := rfl
@[simp] theorem setHl_fZ (s : State) (v : Word) :
    (s.setHl v).fZ = s.fZ := rfl
@[simp] theorem setHl_fN (s : State) (v : Word) :
    (s.setHl v).fN = s.fN := rfl
@[simp] theorem setHl_fH (s : State) (v : Word) :
    (s.setHl v).fH = s.fH := rfl
@[simp] theorem setHl_fC (s : State) (v : Word) :
    (s.setHl v).fC = s.fC := rfl
@[simp] theorem setHl_sp (s : State) (v : Word) :
    (s.setHl v).sp = s.sp := rfl
@[simp] theorem setHl_pc (s : State) (v : Word) :
    (s.setHl v).pc = s.pc := rfl
@[simp] theorem setHl_ime (s : State) (v : Word) :
    (s.setHl v).ime = s.ime := rfl
@[simp] theorem setHl_eiPending (s : State) (v : Word) :
    (s.setHl v).eiPending = s.eiPending := rfl
@[simp] theorem setHl_mode (s : State) (v : Word) :
    (s.setHl v).mode = s.mode := rfl
@[simp] theorem setHl_haltBug (s : State) (v : Word) :
    (s.setHl v).haltBug = s.haltBug := rfl
@[simp] theorem setHl_ie (s : State) (v : Word) :
    (s.setHl v).ie = s.ie := rfl
@[simp] theorem setHl_iflag (s : State) (v : Word) :
    (s.setHl v).iflag = s.iflag := rfl
@[simp] theorem setHl_timer (s : State) (v : Word) :
    (s.setHl v).timer = s.timer := rfl
@[simp] theorem setHl_ppu (s : State) (v : Word) :
    (s.setHl v).ppu = s.ppu := rfl
@[simp] theorem setHl_dmaReg (s : State) (v : Word) :
    (s.setHl v).dmaReg = s.dmaReg := rfl
@[simp] theorem setHl_bootActive (s : State) (v : Word) :
    (s.setHl v).bootActive = s.bootActive := rfl
@[simp] theorem setHl_mapper (s : State) (v : Word) :
    (s.setHl v).mapper = s.mapper := rfl
@[simp] theorem setHl_vram (s : State) (v : Word) :
    (s.setHl v).vram = s.vram := rfl
@[simp] theorem setHl_wram (s : State) (v : Word) :
    (s.setHl v).wram = s.wram := rfl
@[simp] theorem setHl_oam (s : State) (v : Word) :
    (s.setHl v).oam = s.oam := rfl
@[simp] theorem setHl_hram (s : State) (v : Word) :
    (s.setHl v).hram = s.hram := rfl
@[simp] theorem setHl_cartRam (s : State) (v : Word) :
    (s.setHl v).cartRam = s.cartRam := rfl
@[simp] theorem setHl_joypad (s : State) (v : Word) :
    (s.setHl v).joypad = s.joypad := rfl
@[simp] theorem setHl_serial (s : State) (v : Word) :
    (s.setHl v).serial = s.serial := rfl
@[simp] theorem setHl_cycles (s : State) (v : Word) :
    (s.setHl v).cycles = s.cycles := rfl
@[simp] theorem setHl_free (s : State) (v : Word) :
    (s.setHl v).free = s.free := rfl
@[simp] theorem setHl_events (s : State) (v : Word) :
    (s.setHl v).events = s.events := rfl

/-! ### `setPc` -/

@[simp] theorem setPc_cfg (s : State) (v : Word) :
    (s.setPc v).cfg = s.cfg := rfl
@[simp] theorem setPc_a (s : State) (v : Word) :
    (s.setPc v).a = s.a := rfl
@[simp] theorem setPc_b (s : State) (v : Word) :
    (s.setPc v).b = s.b := rfl
@[simp] theorem setPc_c (s : State) (v : Word) :
    (s.setPc v).c = s.c := rfl
@[simp] theorem setPc_d (s : State) (v : Word) :
    (s.setPc v).d = s.d := rfl
@[simp] theorem setPc_e (s : State) (v : Word) :
    (s.setPc v).e = s.e := rfl
@[simp] theorem setPc_h (s : State) (v : Word) :
    (s.setPc v).h = s.h := rfl
@[simp] theorem setPc_l (s : State) (v : Word) :
    (s.setPc v).l = s.l := rfl
@[simp] theorem setPc_fZ (s : State) (v : Word) :
    (s.setPc v).fZ = s.fZ := rfl
@[simp] theorem setPc_fN (s : State) (v : Word) :
    (s.setPc v).fN = s.fN := rfl
@[simp] theorem setPc_fH (s : State) (v : Word) :
    (s.setPc v).fH = s.fH := rfl
@[simp] theorem setPc_fC (s : State) (v : Word) :
    (s.setPc v).fC = s.fC := rfl
@[simp] theorem setPc_sp (s : State) (v : Word) :
    (s.setPc v).sp = s.sp := rfl
@[simp] theorem setPc_pc (s : State) (v : Word) :
    (s.setPc v).pc = v := rfl
@[simp] theorem setPc_ime (s : State) (v : Word) :
    (s.setPc v).ime = s.ime := rfl
@[simp] theorem setPc_eiPending (s : State) (v : Word) :
    (s.setPc v).eiPending = s.eiPending := rfl
@[simp] theorem setPc_mode (s : State) (v : Word) :
    (s.setPc v).mode = s.mode := rfl
@[simp] theorem setPc_haltBug (s : State) (v : Word) :
    (s.setPc v).haltBug = s.haltBug := rfl
@[simp] theorem setPc_ie (s : State) (v : Word) :
    (s.setPc v).ie = s.ie := rfl
@[simp] theorem setPc_iflag (s : State) (v : Word) :
    (s.setPc v).iflag = s.iflag := rfl
@[simp] theorem setPc_timer (s : State) (v : Word) :
    (s.setPc v).timer = s.timer := rfl
@[simp] theorem setPc_ppu (s : State) (v : Word) :
    (s.setPc v).ppu = s.ppu := rfl
@[simp] theorem setPc_dmaReg (s : State) (v : Word) :
    (s.setPc v).dmaReg = s.dmaReg := rfl
@[simp] theorem setPc_bootActive (s : State) (v : Word) :
    (s.setPc v).bootActive = s.bootActive := rfl
@[simp] theorem setPc_mapper (s : State) (v : Word) :
    (s.setPc v).mapper = s.mapper := rfl
@[simp] theorem setPc_vram (s : State) (v : Word) :
    (s.setPc v).vram = s.vram := rfl
@[simp] theorem setPc_wram (s : State) (v : Word) :
    (s.setPc v).wram = s.wram := rfl
@[simp] theorem setPc_oam (s : State) (v : Word) :
    (s.setPc v).oam = s.oam := rfl
@[simp] theorem setPc_hram (s : State) (v : Word) :
    (s.setPc v).hram = s.hram := rfl
@[simp] theorem setPc_cartRam (s : State) (v : Word) :
    (s.setPc v).cartRam = s.cartRam := rfl
@[simp] theorem setPc_joypad (s : State) (v : Word) :
    (s.setPc v).joypad = s.joypad := rfl
@[simp] theorem setPc_serial (s : State) (v : Word) :
    (s.setPc v).serial = s.serial := rfl
@[simp] theorem setPc_cycles (s : State) (v : Word) :
    (s.setPc v).cycles = s.cycles := rfl
@[simp] theorem setPc_free (s : State) (v : Word) :
    (s.setPc v).free = s.free := rfl
@[simp] theorem setPc_events (s : State) (v : Word) :
    (s.setPc v).events = s.events := rfl

/-! ### `took` -/

@[simp] theorem took_cfg (s : State) (n : Nat) :
    (s.took n).cfg = s.cfg := rfl
@[simp] theorem took_a (s : State) (n : Nat) :
    (s.took n).a = s.a := rfl
@[simp] theorem took_b (s : State) (n : Nat) :
    (s.took n).b = s.b := rfl
@[simp] theorem took_c (s : State) (n : Nat) :
    (s.took n).c = s.c := rfl
@[simp] theorem took_d (s : State) (n : Nat) :
    (s.took n).d = s.d := rfl
@[simp] theorem took_e (s : State) (n : Nat) :
    (s.took n).e = s.e := rfl
@[simp] theorem took_h (s : State) (n : Nat) :
    (s.took n).h = s.h := rfl
@[simp] theorem took_l (s : State) (n : Nat) :
    (s.took n).l = s.l := rfl
@[simp] theorem took_fZ (s : State) (n : Nat) :
    (s.took n).fZ = s.fZ := rfl
@[simp] theorem took_fN (s : State) (n : Nat) :
    (s.took n).fN = s.fN := rfl
@[simp] theorem took_fH (s : State) (n : Nat) :
    (s.took n).fH = s.fH := rfl
@[simp] theorem took_fC (s : State) (n : Nat) :
    (s.took n).fC = s.fC := rfl
@[simp] theorem took_sp (s : State) (n : Nat) :
    (s.took n).sp = s.sp := rfl
@[simp] theorem took_pc (s : State) (n : Nat) :
    (s.took n).pc = s.pc := rfl
@[simp] theorem took_ime (s : State) (n : Nat) :
    (s.took n).ime = s.ime := rfl
@[simp] theorem took_eiPending (s : State) (n : Nat) :
    (s.took n).eiPending = s.eiPending := rfl
@[simp] theorem took_mode (s : State) (n : Nat) :
    (s.took n).mode = s.mode := rfl
@[simp] theorem took_haltBug (s : State) (n : Nat) :
    (s.took n).haltBug = s.haltBug := rfl
@[simp] theorem took_ie (s : State) (n : Nat) :
    (s.took n).ie = s.ie := rfl
@[simp] theorem took_iflag (s : State) (n : Nat) :
    (s.took n).iflag = s.iflag := rfl
@[simp] theorem took_timer (s : State) (n : Nat) :
    (s.took n).timer = s.timer := rfl
@[simp] theorem took_ppu (s : State) (n : Nat) :
    (s.took n).ppu = s.ppu := rfl
@[simp] theorem took_dmaReg (s : State) (n : Nat) :
    (s.took n).dmaReg = s.dmaReg := rfl
@[simp] theorem took_bootActive (s : State) (n : Nat) :
    (s.took n).bootActive = s.bootActive := rfl
@[simp] theorem took_mapper (s : State) (n : Nat) :
    (s.took n).mapper = s.mapper := rfl
@[simp] theorem took_vram (s : State) (n : Nat) :
    (s.took n).vram = s.vram := rfl
@[simp] theorem took_wram (s : State) (n : Nat) :
    (s.took n).wram = s.wram := rfl
@[simp] theorem took_oam (s : State) (n : Nat) :
    (s.took n).oam = s.oam := rfl
@[simp] theorem took_hram (s : State) (n : Nat) :
    (s.took n).hram = s.hram := rfl
@[simp] theorem took_cartRam (s : State) (n : Nat) :
    (s.took n).cartRam = s.cartRam := rfl
@[simp] theorem took_joypad (s : State) (n : Nat) :
    (s.took n).joypad = s.joypad := rfl
@[simp] theorem took_serial (s : State) (n : Nat) :
    (s.took n).serial = s.serial := rfl
@[simp] theorem took_cycles (s : State) (n : Nat) :
    (s.took n).cycles = n := rfl
@[simp] theorem took_free (s : State) (n : Nat) :
    (s.took n).free = s.free := rfl
@[simp] theorem took_events (s : State) (n : Nat) :
    (s.took n).events = s.events := rfl

/-! ### `countRead` -/

@[simp] theorem countRead_cfg (s : State) :
    (s.countRead).cfg = s.cfg := rfl
@[simp] theorem countRead_a (s : State) :
    (s.countRead).a = s.a := rfl
@[simp] theorem countRead_b (s : State) :
    (s.countRead).b = s.b := rfl
@[simp] theorem countRead_c (s : State) :
    (s.countRead).c = s.c := rfl
@[simp] theorem countRead_d (s : State) :
    (s.countRead).d = s.d := rfl
@[simp] theorem countRead_e (s : State) :
    (s.countRead).e = s.e := rfl
@[simp] theorem countRead_h (s : State) :
    (s.countRead).h = s.h := rfl
@[simp] theorem countRead_l (s : State) :
    (s.countRead).l = s.l := rfl
@[simp] theorem countRead_fZ (s : State) :
    (s.countRead).fZ = s.fZ := rfl
@[simp] theorem countRead_fN (s : State) :
    (s.countRead).fN = s.fN := rfl
@[simp] theorem countRead_fH (s : State) :
    (s.countRead).fH = s.fH := rfl
@[simp] theorem countRead_fC (s : State) :
    (s.countRead).fC = s.fC := rfl
@[simp] theorem countRead_sp (s : State) :
    (s.countRead).sp = s.sp := rfl
@[simp] theorem countRead_pc (s : State) :
    (s.countRead).pc = s.pc := rfl
@[simp] theorem countRead_ime (s : State) :
    (s.countRead).ime = s.ime := rfl
@[simp] theorem countRead_eiPending (s : State) :
    (s.countRead).eiPending = s.eiPending := rfl
@[simp] theorem countRead_mode (s : State) :
    (s.countRead).mode = s.mode := rfl
@[simp] theorem countRead_haltBug (s : State) :
    (s.countRead).haltBug = s.haltBug := rfl
@[simp] theorem countRead_ie (s : State) :
    (s.countRead).ie = s.ie := rfl
@[simp] theorem countRead_iflag (s : State) :
    (s.countRead).iflag = s.iflag := rfl
@[simp] theorem countRead_timer (s : State) :
    (s.countRead).timer = s.timer := rfl
@[simp] theorem countRead_ppu (s : State) :
    (s.countRead).ppu = s.ppu := rfl
@[simp] theorem countRead_dmaReg (s : State) :
    (s.countRead).dmaReg = s.dmaReg := rfl
@[simp] theorem countRead_bootActive (s : State) :
    (s.countRead).bootActive = s.bootActive := rfl
@[simp] theorem countRead_mapper (s : State) :
    (s.countRead).mapper = s.mapper := rfl
@[simp] theorem countRead_vram (s : State) :
    (s.countRead).vram = s.vram := rfl
@[simp] theorem countRead_wram (s : State) :
    (s.countRead).wram = s.wram := rfl
@[simp] theorem countRead_oam (s : State) :
    (s.countRead).oam = s.oam := rfl
@[simp] theorem countRead_hram (s : State) :
    (s.countRead).hram = s.hram := rfl
@[simp] theorem countRead_cartRam (s : State) :
    (s.countRead).cartRam = s.cartRam := rfl
@[simp] theorem countRead_joypad (s : State) :
    (s.countRead).joypad = s.joypad := rfl
@[simp] theorem countRead_serial (s : State) :
    (s.countRead).serial = s.serial := rfl
@[simp] theorem countRead_cycles (s : State) :
    (s.countRead).cycles = s.cycles := rfl
@[simp] theorem countRead_free (s : State) :
    (s.countRead).free = { s.free with reads := s.free.reads + 1 } := rfl
@[simp] theorem countRead_events (s : State) :
    (s.countRead).events = s.events := rfl

/-! ### `emit` -/

@[simp] theorem emit_cfg (s : State) (ev : Event) :
    (s.emit ev).cfg = s.cfg := rfl
@[simp] theorem emit_a (s : State) (ev : Event) :
    (s.emit ev).a = s.a := rfl
@[simp] theorem emit_b (s : State) (ev : Event) :
    (s.emit ev).b = s.b := rfl
@[simp] theorem emit_c (s : State) (ev : Event) :
    (s.emit ev).c = s.c := rfl
@[simp] theorem emit_d (s : State) (ev : Event) :
    (s.emit ev).d = s.d := rfl
@[simp] theorem emit_e (s : State) (ev : Event) :
    (s.emit ev).e = s.e := rfl
@[simp] theorem emit_h (s : State) (ev : Event) :
    (s.emit ev).h = s.h := rfl
@[simp] theorem emit_l (s : State) (ev : Event) :
    (s.emit ev).l = s.l := rfl
@[simp] theorem emit_fZ (s : State) (ev : Event) :
    (s.emit ev).fZ = s.fZ := rfl
@[simp] theorem emit_fN (s : State) (ev : Event) :
    (s.emit ev).fN = s.fN := rfl
@[simp] theorem emit_fH (s : State) (ev : Event) :
    (s.emit ev).fH = s.fH := rfl
@[simp] theorem emit_fC (s : State) (ev : Event) :
    (s.emit ev).fC = s.fC := rfl
@[simp] theorem emit_sp (s : State) (ev : Event) :
    (s.emit ev).sp = s.sp := rfl
@[simp] theorem emit_pc (s : State) (ev : Event) :
    (s.emit ev).pc = s.pc := rfl
@[simp] theorem emit_ime (s : State) (ev : Event) :
    (s.emit ev).ime = s.ime := rfl
@[simp] theorem emit_eiPending (s : State) (ev : Event) :
    (s.emit ev).eiPending = s.eiPending := rfl
@[simp] theorem emit_mode (s : State) (ev : Event) :
    (s.emit ev).mode = s.mode := rfl
@[simp] theorem emit_haltBug (s : State) (ev : Event) :
    (s.emit ev).haltBug = s.haltBug := rfl
@[simp] theorem emit_ie (s : State) (ev : Event) :
    (s.emit ev).ie = s.ie := rfl
@[simp] theorem emit_iflag (s : State) (ev : Event) :
    (s.emit ev).iflag = s.iflag := rfl
@[simp] theorem emit_timer (s : State) (ev : Event) :
    (s.emit ev).timer = s.timer := rfl
@[simp] theorem emit_ppu (s : State) (ev : Event) :
    (s.emit ev).ppu = s.ppu := rfl
@[simp] theorem emit_dmaReg (s : State) (ev : Event) :
    (s.emit ev).dmaReg = s.dmaReg := rfl
@[simp] theorem emit_bootActive (s : State) (ev : Event) :
    (s.emit ev).bootActive = s.bootActive := rfl
@[simp] theorem emit_mapper (s : State) (ev : Event) :
    (s.emit ev).mapper = s.mapper := rfl
@[simp] theorem emit_vram (s : State) (ev : Event) :
    (s.emit ev).vram = s.vram := rfl
@[simp] theorem emit_wram (s : State) (ev : Event) :
    (s.emit ev).wram = s.wram := rfl
@[simp] theorem emit_oam (s : State) (ev : Event) :
    (s.emit ev).oam = s.oam := rfl
@[simp] theorem emit_hram (s : State) (ev : Event) :
    (s.emit ev).hram = s.hram := rfl
@[simp] theorem emit_cartRam (s : State) (ev : Event) :
    (s.emit ev).cartRam = s.cartRam := rfl
@[simp] theorem emit_joypad (s : State) (ev : Event) :
    (s.emit ev).joypad = s.joypad := rfl
@[simp] theorem emit_serial (s : State) (ev : Event) :
    (s.emit ev).serial = s.serial := rfl
@[simp] theorem emit_cycles (s : State) (ev : Event) :
    (s.emit ev).cycles = s.cycles := rfl
@[simp] theorem emit_free (s : State) (ev : Event) :
    (s.emit ev).free = s.free := rfl
@[simp] theorem emit_events (s : State) (ev : Event) :
    (s.emit ev).events = ev :: s.events := rfl

/-! ### `raiseIf` -/

@[simp] theorem raiseIf_cfg (s : State) (k : Nat) :
    (raiseIf k s).cfg = s.cfg := rfl
@[simp] theorem raiseIf_a (s : State) (k : Nat) :
    (raiseIf k s).a = s.a := rfl
@[simp] theorem raiseIf_b (s : State) (k : Nat) :
    (raiseIf k s).b = s.b := rfl
@[simp] theorem raiseIf_c (s : State) (k : Nat) :
    (raiseIf k s).c = s.c := rfl
@[simp] theorem raiseIf_d (s : State) (k : Nat) :
    (raiseIf k s).d = s.d := rfl
@[simp] theorem raiseIf_e (s : State) (k : Nat) :
    (raiseIf k s).e = s.e := rfl
@[simp] theorem raiseIf_h (s : State) (k : Nat) :
    (raiseIf k s).h = s.h := rfl
@[simp] theorem raiseIf_l (s : State) (k : Nat) :
    (raiseIf k s).l = s.l := rfl
@[simp] theorem raiseIf_fZ (s : State) (k : Nat) :
    (raiseIf k s).fZ = s.fZ := rfl
@[simp] theorem raiseIf_fN (s : State) (k : Nat) :
    (raiseIf k s).fN = s.fN := rfl
@[simp] theorem raiseIf_fH (s : State) (k : Nat) :
    (raiseIf k s).fH = s.fH := rfl
@[simp] theorem raiseIf_fC (s : State) (k : Nat) :
    (raiseIf k s).fC = s.fC := rfl
@[simp] theorem raiseIf_sp (s : State) (k : Nat) :
    (raiseIf k s).sp = s.sp := rfl
@[simp] theorem raiseIf_pc (s : State) (k : Nat) :
    (raiseIf k s).pc = s.pc := rfl
@[simp] theorem raiseIf_ime (s : State) (k : Nat) :
    (raiseIf k s).ime = s.ime := rfl
@[simp] theorem raiseIf_eiPending (s : State) (k : Nat) :
    (raiseIf k s).eiPending = s.eiPending := rfl
@[simp] theorem raiseIf_mode (s : State) (k : Nat) :
    (raiseIf k s).mode = s.mode := rfl
@[simp] theorem raiseIf_haltBug (s : State) (k : Nat) :
    (raiseIf k s).haltBug = s.haltBug := rfl
@[simp] theorem raiseIf_ie (s : State) (k : Nat) :
    (raiseIf k s).ie = s.ie := rfl
@[simp] theorem raiseIf_iflag (s : State) (k : Nat) :
    (raiseIf k s).iflag = s.iflag ||| BitVec.twoPow 5 k := rfl
@[simp] theorem raiseIf_timer (s : State) (k : Nat) :
    (raiseIf k s).timer = s.timer := rfl
@[simp] theorem raiseIf_ppu (s : State) (k : Nat) :
    (raiseIf k s).ppu = s.ppu := rfl
@[simp] theorem raiseIf_dmaReg (s : State) (k : Nat) :
    (raiseIf k s).dmaReg = s.dmaReg := rfl
@[simp] theorem raiseIf_bootActive (s : State) (k : Nat) :
    (raiseIf k s).bootActive = s.bootActive := rfl
@[simp] theorem raiseIf_mapper (s : State) (k : Nat) :
    (raiseIf k s).mapper = s.mapper := rfl
@[simp] theorem raiseIf_vram (s : State) (k : Nat) :
    (raiseIf k s).vram = s.vram := rfl
@[simp] theorem raiseIf_wram (s : State) (k : Nat) :
    (raiseIf k s).wram = s.wram := rfl
@[simp] theorem raiseIf_oam (s : State) (k : Nat) :
    (raiseIf k s).oam = s.oam := rfl
@[simp] theorem raiseIf_hram (s : State) (k : Nat) :
    (raiseIf k s).hram = s.hram := rfl
@[simp] theorem raiseIf_cartRam (s : State) (k : Nat) :
    (raiseIf k s).cartRam = s.cartRam := rfl
@[simp] theorem raiseIf_joypad (s : State) (k : Nat) :
    (raiseIf k s).joypad = s.joypad := rfl
@[simp] theorem raiseIf_serial (s : State) (k : Nat) :
    (raiseIf k s).serial = s.serial := rfl
@[simp] theorem raiseIf_cycles (s : State) (k : Nat) :
    (raiseIf k s).cycles = s.cycles := rfl
@[simp] theorem raiseIf_free (s : State) (k : Nat) :
    (raiseIf k s).free = s.free := rfl
@[simp] theorem raiseIf_events (s : State) (k : Nat) :
    (raiseIf k s).events = s.events := rfl

/-! ### `setReg` -/

@[simp] theorem setReg_cfg (s : State) (r : Reg8) (v : Byte) :
    (s.setReg r v).cfg = s.cfg := by cases r <;> rfl
@[simp] theorem setReg_fZ (s : State) (r : Reg8) (v : Byte) :
    (s.setReg r v).fZ = s.fZ := by cases r <;> rfl
@[simp] theorem setReg_fN (s : State) (r : Reg8) (v : Byte) :
    (s.setReg r v).fN = s.fN := by cases r <;> rfl
@[simp] theorem setReg_fH (s : State) (r : Reg8) (v : Byte) :
    (s.setReg r v).fH = s.fH := by cases r <;> rfl
@[simp] theorem setReg_fC (s : State) (r : Reg8) (v : Byte) :
    (s.setReg r v).fC = s.fC := by cases r <;> rfl
@[simp] theorem setReg_sp (s : State) (r : Reg8) (v : Byte) :
    (s.setReg r v).sp = s.sp := by cases r <;> rfl
@[simp] theorem setReg_pc (s : State) (r : Reg8) (v : Byte) :
    (s.setReg r v).pc = s.pc := by cases r <;> rfl
@[simp] theorem setReg_ime (s : State) (r : Reg8) (v : Byte) :
    (s.setReg r v).ime = s.ime := by cases r <;> rfl
@[simp] theorem setReg_eiPending (s : State) (r : Reg8) (v : Byte) :
    (s.setReg r v).eiPending = s.eiPending := by cases r <;> rfl
@[simp] theorem setReg_mode (s : State) (r : Reg8) (v : Byte) :
    (s.setReg r v).mode = s.mode := by cases r <;> rfl
@[simp] theorem setReg_haltBug (s : State) (r : Reg8) (v : Byte) :
    (s.setReg r v).haltBug = s.haltBug := by cases r <;> rfl
@[simp] theorem setReg_ie (s : State) (r : Reg8) (v : Byte) :
    (s.setReg r v).ie = s.ie := by cases r <;> rfl
@[simp] theorem setReg_iflag (s : State) (r : Reg8) (v : Byte) :
    (s.setReg r v).iflag = s.iflag := by cases r <;> rfl
@[simp] theorem setReg_timer (s : State) (r : Reg8) (v : Byte) :
    (s.setReg r v).timer = s.timer := by cases r <;> rfl
@[simp] theorem setReg_ppu (s : State) (r : Reg8) (v : Byte) :
    (s.setReg r v).ppu = s.ppu := by cases r <;> rfl
@[simp] theorem setReg_dmaReg (s : State) (r : Reg8) (v : Byte) :
    (s.setReg r v).dmaReg = s.dmaReg := by cases r <;> rfl
@[simp] theorem setReg_bootActive (s : State) (r : Reg8) (v : Byte) :
    (s.setReg r v).bootActive = s.bootActive := by cases r <;> rfl
@[simp] theorem setReg_mapper (s : State) (r : Reg8) (v : Byte) :
    (s.setReg r v).mapper = s.mapper := by cases r <;> rfl
@[simp] theorem setReg_vram (s : State) (r : Reg8) (v : Byte) :
    (s.setReg r v).vram = s.vram := by cases r <;> rfl
@[simp] theorem setReg_wram (s : State) (r : Reg8) (v : Byte) :
    (s.setReg r v).wram = s.wram := by cases r <;> rfl
@[simp] theorem setReg_oam (s : State) (r : Reg8) (v : Byte) :
    (s.setReg r v).oam = s.oam := by cases r <;> rfl
@[simp] theorem setReg_hram (s : State) (r : Reg8) (v : Byte) :
    (s.setReg r v).hram = s.hram := by cases r <;> rfl
@[simp] theorem setReg_cartRam (s : State) (r : Reg8) (v : Byte) :
    (s.setReg r v).cartRam = s.cartRam := by cases r <;> rfl
@[simp] theorem setReg_joypad (s : State) (r : Reg8) (v : Byte) :
    (s.setReg r v).joypad = s.joypad := by cases r <;> rfl
@[simp] theorem setReg_serial (s : State) (r : Reg8) (v : Byte) :
    (s.setReg r v).serial = s.serial := by cases r <;> rfl
@[simp] theorem setReg_cycles (s : State) (r : Reg8) (v : Byte) :
    (s.setReg r v).cycles = s.cycles := by cases r <;> rfl
@[simp] theorem setReg_free (s : State) (r : Reg8) (v : Byte) :
    (s.setReg r v).free = s.free := by cases r <;> rfl
@[simp] theorem setReg_events (s : State) (r : Reg8) (v : Byte) :
    (s.setReg r v).events = s.events := by cases r <;> rfl

/-! ### `setPair` -/

@[simp] theorem setPair_cfg (s : State) (p : Pair16) (v : Word) :
    (s.setPair p v).cfg = s.cfg := by cases p <;> rfl
@[simp] theorem setPair_fZ (s : State) (p : Pair16) (v : Word) :
    (s.setPair p v).fZ = s.fZ := by cases p <;> rfl
@[simp] theorem setPair_fN (s : State) (p : Pair16) (v : Word) :
    (s.setPair p v).fN = s.fN := by cases p <;> rfl
@[simp] theorem setPair_fH (s : State) (p : Pair16) (v : Word) :
    (s.setPair p v).fH = s.fH := by cases p <;> rfl
@[simp] theorem setPair_fC (s : State) (p : Pair16) (v : Word) :
    (s.setPair p v).fC = s.fC := by cases p <;> rfl
@[simp] theorem setPair_pc (s : State) (p : Pair16) (v : Word) :
    (s.setPair p v).pc = s.pc := by cases p <;> rfl
@[simp] theorem setPair_ime (s : State) (p : Pair16) (v : Word) :
    (s.setPair p v).ime = s.ime := by cases p <;> rfl
@[simp] theorem setPair_eiPending (s : State) (p : Pair16) (v : Word) :
    (s.setPair p v).eiPending = s.eiPending := by cases p <;> rfl
@[simp] theorem setPair_mode (s : State) (p : Pair16) (v : Word) :
    (s.setPair p v).mode = s.mode := by cases p <;> rfl
@[simp] theorem setPair_haltBug (s : State) (p : Pair16) (v : Word) :
    (s.setPair p v).haltBug = s.haltBug := by cases p <;> rfl
@[simp] theorem setPair_ie (s : State) (p : Pair16) (v : Word) :
    (s.setPair p v).ie = s.ie := by cases p <;> rfl
@[simp] theorem setPair_iflag (s : State) (p : Pair16) (v : Word) :
    (s.setPair p v).iflag = s.iflag := by cases p <;> rfl
@[simp] theorem setPair_timer (s : State) (p : Pair16) (v : Word) :
    (s.setPair p v).timer = s.timer := by cases p <;> rfl
@[simp] theorem setPair_ppu (s : State) (p : Pair16) (v : Word) :
    (s.setPair p v).ppu = s.ppu := by cases p <;> rfl
@[simp] theorem setPair_dmaReg (s : State) (p : Pair16) (v : Word) :
    (s.setPair p v).dmaReg = s.dmaReg := by cases p <;> rfl
@[simp] theorem setPair_bootActive (s : State) (p : Pair16) (v : Word) :
    (s.setPair p v).bootActive = s.bootActive := by cases p <;> rfl
@[simp] theorem setPair_mapper (s : State) (p : Pair16) (v : Word) :
    (s.setPair p v).mapper = s.mapper := by cases p <;> rfl
@[simp] theorem setPair_vram (s : State) (p : Pair16) (v : Word) :
    (s.setPair p v).vram = s.vram := by cases p <;> rfl
@[simp] theorem setPair_wram (s : State) (p : Pair16) (v : Word) :
    (s.setPair p v).wram = s.wram := by cases p <;> rfl
@[simp] theorem setPair_oam (s : State) (p : Pair16) (v : Word) :
    (s.setPair p v).oam = s.oam := by cases p <;> rfl
@[simp] theorem setPair_hram (s : State) (p : Pair16) (v : Word) :
    (s.setPair p v).hram = s.hram := by cases p <;> rfl
@[simp] theorem setPair_cartRam (s : State) (p : Pair16) (v : Word) :
    (s.setPair p v).cartRam = s.cartRam := by cases p <;> rfl
@[simp] theorem setPair_joypad (s : State) (p : Pair16) (v : Word) :
    (s.setPair p v).joypad = s.joypad := by cases p <;> rfl
@[simp] theorem setPair_serial (s : State) (p : Pair16) (v : Word) :
    (s.setPair p v).serial = s.serial := by cases p <;> rfl
@[simp] theorem setPair_cycles (s : State) (p : Pair16) (v : Word) :
    (s.setPair p v).cycles = s.cycles := by cases p <;> rfl
@[simp] theorem setPair_free (s : State) (p : Pair16) (v : Word) :
    (s.setPair p v).free = s.free := by cases p <;> rfl
@[simp] theorem setPair_events (s : State) (p : Pair16) (v : Word) :
    (s.setPair p v).events = s.events := by cases p <;> rfl

/-! ### `setStackPair` -/

@[simp] theorem setStackPair_cfg (s : State) (p : StackPair) (v : Word) :
    (s.setStackPair p v).cfg = s.cfg := by cases p <;> rfl
@[simp] theorem setStackPair_sp (s : State) (p : StackPair) (v : Word) :
    (s.setStackPair p v).sp = s.sp := by cases p <;> rfl
@[simp] theorem setStackPair_pc (s : State) (p : StackPair) (v : Word) :
    (s.setStackPair p v).pc = s.pc := by cases p <;> rfl
@[simp] theorem setStackPair_ime (s : State) (p : StackPair) (v : Word) :
    (s.setStackPair p v).ime = s.ime := by cases p <;> rfl
@[simp] theorem setStackPair_eiPending (s : State) (p : StackPair) (v : Word) :
    (s.setStackPair p v).eiPending = s.eiPending := by cases p <;> rfl
@[simp] theorem setStackPair_mode (s : State) (p : StackPair) (v : Word) :
    (s.setStackPair p v).mode = s.mode := by cases p <;> rfl
@[simp] theorem setStackPair_haltBug (s : State) (p : StackPair) (v : Word) :
    (s.setStackPair p v).haltBug = s.haltBug := by cases p <;> rfl
@[simp] theorem setStackPair_ie (s : State) (p : StackPair) (v : Word) :
    (s.setStackPair p v).ie = s.ie := by cases p <;> rfl
@[simp] theorem setStackPair_iflag (s : State) (p : StackPair) (v : Word) :
    (s.setStackPair p v).iflag = s.iflag := by cases p <;> rfl
@[simp] theorem setStackPair_timer (s : State) (p : StackPair) (v : Word) :
    (s.setStackPair p v).timer = s.timer := by cases p <;> rfl
@[simp] theorem setStackPair_ppu (s : State) (p : StackPair) (v : Word) :
    (s.setStackPair p v).ppu = s.ppu := by cases p <;> rfl
@[simp] theorem setStackPair_dmaReg (s : State) (p : StackPair) (v : Word) :
    (s.setStackPair p v).dmaReg = s.dmaReg := by cases p <;> rfl
@[simp] theorem setStackPair_bootActive (s : State) (p : StackPair) (v : Word) :
    (s.setStackPair p v).bootActive = s.bootActive := by cases p <;> rfl
@[simp] theorem setStackPair_mapper (s : State) (p : StackPair) (v : Word) :
    (s.setStackPair p v).mapper = s.mapper := by cases p <;> rfl
@[simp] theorem setStackPair_vram (s : State) (p : StackPair) (v : Word) :
    (s.setStackPair p v).vram = s.vram := by cases p <;> rfl
@[simp] theorem setStackPair_wram (s : State) (p : StackPair) (v : Word) :
    (s.setStackPair p v).wram = s.wram := by cases p <;> rfl
@[simp] theorem setStackPair_oam (s : State) (p : StackPair) (v : Word) :
    (s.setStackPair p v).oam = s.oam := by cases p <;> rfl
@[simp] theorem setStackPair_hram (s : State) (p : StackPair) (v : Word) :
    (s.setStackPair p v).hram = s.hram := by cases p <;> rfl
@[simp] theorem setStackPair_cartRam (s : State) (p : StackPair) (v : Word) :
    (s.setStackPair p v).cartRam = s.cartRam := by cases p <;> rfl
@[simp] theorem setStackPair_joypad (s : State) (p : StackPair) (v : Word) :
    (s.setStackPair p v).joypad = s.joypad := by cases p <;> rfl
@[simp] theorem setStackPair_serial (s : State) (p : StackPair) (v : Word) :
    (s.setStackPair p v).serial = s.serial := by cases p <;> rfl
@[simp] theorem setStackPair_cycles (s : State) (p : StackPair) (v : Word) :
    (s.setStackPair p v).cycles = s.cycles := by cases p <;> rfl
@[simp] theorem setStackPair_free (s : State) (p : StackPair) (v : Word) :
    (s.setStackPair p v).free = s.free := by cases p <;> rfl
@[simp] theorem setStackPair_events (s : State) (p : StackPair) (v : Word) :
    (s.setStackPair p v).events = s.events := by cases p <;> rfl

/-! ### Register cells and pairs read back what was written -/

/-- A cell reads what was written to it, and no other cell changes (10_state.md R10). -/
theorem reg_setReg (s : State) (r x : Reg8) (v : Byte) : (s.setReg r v).reg x = if x = r then v else s.reg x := by
  cases r <;> cases x <;> rfl

@[simp] theorem setPair_a (s : State) (p : Pair16) (v : Word) : (s.setPair p v).a = s.a := by cases p <;> rfl

end Sys2Proof.Machine
end

