-- ==== Sys2Proof/Laws/Peripherals.lean ====
section
/-! SUPPORT. The peripherals: what one tick, one poll and one move of the host can change at all, and that each of them keeps the
invariant (60_exceptions.md R270 to R303). -/

namespace Sys2Proof.Machine

/-! ### Repetition -/

theorem repeatTick_succ (f : State → State) (n : Nat) (s : State) : repeatTick f (n + 1) s = repeatTick f n (f s) := rfl

theorem repeatTick_add (f : State → State) (m n : Nat) (s : State) :
    repeatTick f (m + n) s = repeatTick f n (repeatTick f m s) := by
  induction m generalizing s with
  | zero => rw [Nat.zero_add]; rfl
  | succ m ih => rw [Nat.add_right_comm]; exact ih (f s)

/-- What one tick keeps, `n` ticks keep. -/
theorem repeatTick_keeps {P : State → Prop} {f : State → State} (hf : ∀ s, P s → P (f s)) (n : Nat) (s : State) (h : P s) :
    P (repeatTick f n s) := by
  induction n generalizing s with
  | zero => exact h
  | succ n ih => exact ih (f s) (hf s h)

/-! ### What a move of the peripherals is -/

/-- Everything a move of the peripherals or of the host can do between two instructions: it sets IF bits and changes the
peripherals' own registers; CPU, memories, mapper, configuration, IE and the registers only the CPU writes stay. -/
structure PeripheralMove (s t : State) : Prop where
  frame : t = { s with iflag := t.iflag, timer := t.timer, ppu := t.ppu, joypad := t.joypad, serial := t.serial,
                       free := t.free, events := t.events }
  timer : t.timer = { s.timer with sysclk := t.timer.sysclk, tima := t.timer.tima, sub := t.timer.sub,
                                   reloadPending := t.timer.reloadPending }
  ppu : t.ppu = { s.ppu with ly := t.ppu.ly, dot := t.ppu.dot, mode := t.ppu.mode, m3len := t.ppu.m3len }
  sel : t.joypad.sel = s.joypad.sel
  sc0 : t.serial.sc0 = s.serial.sc0
  reads : t.free.reads = s.free.reads
  iflag : ∀ k, s.iflag.getLsbD k = true → t.iflag.getLsbD k = true

theorem PeripheralMove.refl (s : State) : PeripheralMove s s := ⟨rfl, rfl, rfl, rfl, rfl, rfl, fun _ h => h⟩

theorem PeripheralMove.trans {s t u : State} (h : PeripheralMove s t) (h' : PeripheralMove t u) : PeripheralMove s u where
  frame := by rw [h'.frame, h.frame]
  timer := by rw [h'.timer, h.timer]
  ppu := by rw [h'.ppu, h.ppu]
  sel := h'.sel.trans h.sel
  sc0 := h'.sc0.trans h.sc0
  reads := h'.reads.trans h.reads
  iflag := fun k hk => h'.iflag k (h.iflag k hk)

theorem PeripheralMove.repeatTick {f : State → State} (hf : ∀ s, PeripheralMove s (f s)) (n : Nat) (s : State) :
    PeripheralMove s (repeatTick f n s) := by
  induction n generalizing s with
  | zero => exact .refl s
  | succ n ih => exact (hf s).trans (ih (f s))

theorem PeripheralMove.raiseIf (k : Nat) (s : State) : PeripheralMove s (raiseIf k s) :=
  ⟨rfl, rfl, rfl, rfl, rfl, rfl, fun _ h => by simp [Machine.raiseIf, h]⟩

theorem PeripheralMove.emit (ev : Event) (s : State) : PeripheralMove s (s.emit ev) :=
  ⟨rfl, rfl, rfl, rfl, rfl, rfl, fun _ h => h⟩

theorem timerTick_move (s : State) : PeripheralMove s (timerTick s) := by
  have h1 : PeripheralMove s (tickDivider s) := ⟨rfl, rfl, rfl, rfl, rfl, rfl, fun _ h => h⟩
  have h2 : ∀ s, PeripheralMove s (tickReload s) := by
    intro s
    unfold tickReload
    split
    · refine PeripheralMove.trans ?_ (.raiseIf 2 _)
      exact ⟨rfl, rfl, rfl, rfl, rfl, rfl, fun _ h => h⟩
    · exact .refl s
  have h3 : ∀ s, PeripheralMove s (tickCounter s) := by
    intro s
    unfold tickCounter
    split
    · split
      · refine ⟨rfl, ?_, rfl, rfl, rfl, rfl, fun _ h => h⟩
        simp only [bumpTima]; split <;> rfl
      · exact ⟨rfl, rfl, rfl, rfl, rfl, rfl, fun _ h => h⟩
    · exact .refl s
  exact h1.trans ((h2 _).trans (h3 _))

theorem ppuTick_move (s : State) : PeripheralMove s (ppuTick s) := by
  have hdraw : ∀ n s, PeripheralMove s (drawMode3 n s) := fun _ s => ⟨rfl, rfl, rfl, rfl, rfl, rfl, fun _ h => h⟩
  have hcmp : ∀ s, PeripheralMove s (lineCompare s) := by
    intro s; unfold lineCompare; split
    · exact .raiseIf 1 s
    · exact .refl s
  have hpos : ∀ s, PeripheralMove s (tickPosition s) := by
    intro s; unfold tickPosition; split
    · refine PeripheralMove.trans ?_ (hcmp _)
      split
      · refine PeripheralMove.trans ?_ (hdraw _ _)
        exact ⟨rfl, rfl, rfl, rfl, rfl, rfl, fun _ h => h⟩
      · exact ⟨rfl, rfl, rfl, rfl, rfl, rfl, fun _ h => h⟩
    · exact ⟨rfl, rfl, rfl, rfl, rfl, rfl, fun _ h => h⟩
  have hentry : ∀ m s, PeripheralMove s (modeEntry m s) := by
    intro m s
    unfold modeEntry
    split
    · split
      · exact .raiseIf 1 s
      · exact .refl s
    · split
      · exact .raiseIf 1 s
      · exact .refl s
    · refine PeripheralMove.trans ?_ (.emit _ _)
      refine (PeripheralMove.raiseIf 0 s).trans ?_
      split
      · exact .raiseIf 1 _
      · exact .refl _
    · exact .refl s
  have hmode : ∀ s, PeripheralMove s (tickMode s) := by
    intro s; unfold tickMode; dsimp only; split
    · exact .refl s
    · refine PeripheralMove.trans ?_ (hentry _ _)
      exact ⟨rfl, rfl, rfl, rfl, rfl, rfl, fun _ h => h⟩
  unfold ppuTick
  split
  · exact (hpos s).trans (hmode _)
  · exact .refl s

theorem inputPoll_move (s : State) : PeripheralMove s (inputPoll s) := by
  unfold inputPoll
  dsimp only
  split
  · exact (PeripheralMove.raiseIf 4 s).trans ⟨rfl, rfl, rfl, rfl, rfl, rfl, fun _ h => h⟩
  · exact ⟨rfl, rfl, rfl, rfl, rfl, rfl, fun _ h => h⟩

theorem inputPolls_move (n : Nat) (s : State) : PeripheralMove s (inputPolls n s) := by
  induction n generalizing s with
  | zero => exact .refl s
  | succ n ih =>
    unfold inputPolls
    split
    · exact (inputPoll_move s).trans (ih _)
    · exact .refl s

theorem inputStep_move (c : Nat) (s : State) : PeripheralMove s (inputStep c s) := by
  refine PeripheralMove.trans ?_ (inputPolls_move (s.joypad.inputTimer + c) _)
  exact ⟨rfl, rfl, rfl, rfl, rfl, rfl, fun _ h => h⟩

theorem serialMove_move (s : State) : PeripheralMove s (serialMove s) := by
  unfold serialMove
  split
  · dsimp only
    split
    · exact ⟨rfl, rfl, rfl, rfl, rfl, rfl, fun _ h => h⟩
    · refine PeripheralMove.trans ?_ (.raiseIf 3 _)
      exact ⟨rfl, rfl, rfl, rfl, rfl, rfl, fun _ h => h⟩
  · exact .refl s

/-- The peripherals' part of a step. -/
theorem advancePeripherals_move (c : Nat) (s : State) : PeripheralMove s (advancePeripherals c s) :=
  (PeripheralMove.repeatTick timerTick_move c s).trans
    ((PeripheralMove.repeatTick ppuTick_move c _).trans (inputStep_move c _))

/-! ### The invariant -/

/-- The invariant rests on these fields alone. -/
theorem State.Inv.congr {s t : State} (h : s.Inv) (cfg : t.cfg = s.cfg) (bootActive : t.bootActive = s.bootActive)
    (vram : t.vram = s.vram) (wram : t.wram = s.wram) (oam : t.oam = s.oam) (hram : t.hram = s.hram)
    (cartRam : t.cartRam = s.cartRam) (mapper : t.mapper = s.mapper) (sub : t.timer.sub = s.timer.sub) (ppu : t.ppu = s.ppu)
    (inputTimer : t.joypad.inputTimer = s.joypad.inputTimer) (haltBug : t.haltBug = s.haltBug) : t.Inv where
  cfgValid := by rw [cfg]; exact h.cfgValid
  bootImage := by rw [cfg, bootActive]; exact h.bootImage
  vramWf := by rw [vram]; exact h.vramWf
  wramWf := by rw [wram]; exact h.wramWf
  oamWf := by rw [oam]; exact h.oamWf
  hramWf := by rw [hram]; exact h.hramWf
  cartRamWf := by rw [cfg, cartRam]; exact h.cartRamWf
  bank1 := by rw [mapper]; exact h.bank1
  sub := by rw [sub]; exact h.sub
  ly := by rw [ppu]; exact h.ly
  dot := by rw [ppu]; exact h.dot
  m3low := by rw [ppu]; exact h.m3low
  m3high := by rw [ppu]; exact h.m3high
  lcdOff := by rw [ppu]; exact h.lcdOff
  lcdMode := by rw [ppu]; exact h.lcdMode
  inputTimer := by rw [cfg, inputTimer]; exact h.inputTimer
  haltBug := by rw [cfg, haltBug]; exact h.haltBug

theorem timaDivisor_le (tac : BitVec 3) : timaDivisor tac ≤ 1024 := by revert tac; decide

theorem mode3Len_range (n ly : Nat) : 172 ≤ Config.mode3Len n ly ∧ Config.mode3Len n ly ≤ 289 := by
  have := (Config.mode3Extra n ly).isLt
  unfold Config.mode3Len; omega

theorem timerTick_inv (s : State) (h : s.Inv) : (timerTick s).Inv := by
  have key : (timerTick s).timer.sub < 1024 := by
    have h0 : (tickReload (tickDivider s)).timer.sub = s.timer.sub := by unfold tickReload; split <;> rfl
    have hs := h.sub
    unfold timerTick tickCounter
    split
    · split
      · simp only [bumpTima]; split <;> simp
      · have := timaDivisor_le (tickReload (tickDivider s)).timer.tac
        dsimp only; omega
    · rw [h0]; exact hs
  have f := (timerTick_move s).frame
  have p : (timerTick s).ppu = s.ppu := by
    unfold timerTick tickCounter tickReload; repeat' (split)
    all_goals rfl
  have j : (timerTick s).joypad = s.joypad := by
    unfold timerTick tickCounter tickReload; repeat' (split)
    all_goals rfl
  exact
    { h.congr (t := { timerTick s with timer := s.timer }) (by rw [f]) (by rw [f]) (by rw [f]) (by rw [f]) (by rw [f]) (by rw [f])
        (by rw [f]) (by rw [f]) rfl p (by rw [← j]) (by rw [f]) with sub := key }

/-! ### The line machine -/

theorem ppuTick_off (s : State) (h : lcdOn s.ppu = false) : ppuTick s = s := by simp [ppuTick, h]

/-- A tick changes only the line machine, IF, the event log and the model's draw counter. -/
theorem ppuTick_fields (s : State) :
    ppuTick s = { s with ppu := (ppuTick s).ppu, iflag := (ppuTick s).iflag, free := (ppuTick s).free,
                         events := (ppuTick s).events } := by
  have hcmp : ∀ s, lineCompare s = { s with iflag := (lineCompare s).iflag } := by
    intro s; unfold lineCompare; split <;> rfl
  have hpos : ∀ s, tickPosition s = { s with ppu := (tickPosition s).ppu, iflag := (tickPosition s).iflag,
                                             free := (tickPosition s).free } := by
    intro s; unfold tickPosition; split
    · unfold nextLine; dsimp only; rw [hcmp]; split <;> rfl
    · rfl
  have hentry : ∀ m s, modeEntry m s = { s with iflag := (modeEntry m s).iflag, events := (modeEntry m s).events } := by
    intro m s
    unfold modeEntry
    split
    · split <;> rfl
    · split <;> rfl
    · unfold vblankEntry; dsimp only; split <;> rfl
    · rfl
  have hmode : ∀ s, tickMode s = { s with ppu := (tickMode s).ppu, iflag := (tickMode s).iflag,
                                          events := (tickMode s).events } := by
    intro s; unfold tickMode; dsimp only; split
    · rfl
    · rw [hentry]
  unfold ppuTick
  split
  · rw [hmode, hpos]
  · rfl

theorem lineCompare_ppu (s : State) : (lineCompare s).ppu = s.ppu := by unfold lineCompare; split <;> rfl

theorem modeEntry_ppu (m : PpuMode) (s : State) : (modeEntry m s).ppu = s.ppu := by
  unfold modeEntry
  split
  · split <;> rfl
  · split <;> rfl
  · unfold vblankEntry; dsimp only; split <;> rfl
  · rfl

/-- The mode after a tick is the one the position gives (60_exceptions.md R283, R284). -/
theorem tickMode_ppu (s : State) :
    (tickMode s).ppu = { s.ppu with mode := ppuModeAt s.ppu.ly s.ppu.dot s.ppu.m3len } := by
  unfold tickMode
  dsimp only
  split
  · rename_i h; rw [h]
  · rw [modeEntry_ppu]

/-- The position after a tick that stays on its line (60_exceptions.md R282). -/
theorem tickPosition_same (s : State) (h : s.ppu.dot + 1 ≠ 456) :
    tickPosition s = { s with ppu := { s.ppu with dot := s.ppu.dot + 1 } } := by simp [tickPosition, h]

/-- The position after the last dot of a line, with the drawn length of a visible line (60_exceptions.md R282, R289). -/
theorem tickPosition_next (s : State) (h : s.ppu.dot + 1 = 456) :
    (tickPosition s).ppu =
      { s.ppu with dot := 0, ly := (s.ppu.ly + 1) % 154,
                   m3len := if (s.ppu.ly + 1) % 154 ≤ 143 then Config.mode3Len s.free.lines ((s.ppu.ly + 1) % 154)
                            else s.ppu.m3len } := by
  simp only [tickPosition, h, if_true, nextLine, lineCompare_ppu]
  split <;> rfl

theorem ppuTick_inv (s : State) (h : s.Inv) : (ppuTick s).Inv := by
  by_cases hon : lcdOn s.ppu = true
  · have f := (ppuTick_move s).frame
    have ht := ppuTick_fields s
    have hp : (ppuTick s).ppu = (tickMode (tickPosition s)).ppu := by simp [ppuTick, hon]
    have base : State.Inv { ppuTick s with ppu := s.ppu } :=
      h.congr (by rw [f]) (by rw [f]) (by rw [f]) (by rw [f]) (by rw [f]) (by rw [f]) (by rw [f]) (by rw [f])
        (by rw [ht]) rfl (by rw [ht]) (by rw [f])
    rw [tickMode_ppu] at hp
    by_cases hd : s.ppu.dot + 1 = 456
    · rw [tickPosition_next s hd] at hp
      have hm := mode3Len_range s.free.lines ((s.ppu.ly + 1) % 154)
      have l := h.m3low
      have g := h.m3high
      exact
        { base with
          ly := by rw [hp]; exact Nat.mod_lt _ (by omega)
          dot := by rw [hp]; dsimp only; omega
          m3low := by rw [hp]; dsimp only; split <;> omega
          m3high := by rw [hp]; dsimp only; split <;> omega
          lcdOff := by intro hf; rw [hp] at hf; exact absurd hf (by simpa [lcdOn] using hon)
          lcdMode := by intro _; rw [hp] }
    · rw [tickPosition_same s hd] at hp
      have := h.dot
      exact
        { base with
          ly := by rw [hp]; exact h.ly
          dot := by rw [hp]; dsimp only; omega
          m3low := by rw [hp]; exact h.m3low
          m3high := by rw [hp]; exact h.m3high
          lcdOff := by intro hf; rw [hp] at hf; exact absurd hf (by simpa [lcdOn] using hon)
          lcdMode := by intro _; rw [hp] }
  · rw [ppuTick_off s (by simpa using hon)]; exact h

/-! ### The joypad and the serial interface -/

/-- One poll lowers the timer by the period and leaves everything the invariant rests on (60_exceptions.md R301). -/
theorem inputPoll_fields (s : State) :
    inputPoll s = { s with joypad := (inputPoll s).joypad, iflag := (inputPoll s).iflag, free := (inputPoll s).free } ∧
    (inputPoll s).joypad.inputTimer = s.joypad.inputTimer - s.cfg.inputPollPeriod := by
  unfold inputPoll
  dsimp only
  split <;> exact ⟨rfl, rfl⟩

/-- With enough fuel the loop ends with the timer below the period (60_exceptions.md R301; 10_state.md R28). -/
theorem inputPolls_fields (n : Nat) (s : State) (hp : 0 < s.cfg.inputPollPeriod) (hn : s.joypad.inputTimer ≤ n) :
    inputPolls n s = { s with joypad := (inputPolls n s).joypad, iflag := (inputPolls n s).iflag,
                              free := (inputPolls n s).free } ∧
    (inputPolls n s).joypad.inputTimer < s.cfg.inputPollPeriod := by
  induction n generalizing s with
  | zero => exact ⟨rfl, by simp only [inputPolls]; omega⟩
  | succ n ih =>
    unfold inputPolls
    split
    · obtain ⟨he, ht⟩ := inputPoll_fields s
      have hc : (inputPoll s).cfg = s.cfg := by rw [he]
      obtain ⟨h1, h2⟩ := ih (inputPoll s) (by rw [hc]; exact hp) (by rw [ht]; omega)
      exact ⟨by rw [h1, he], by rw [← hc]; exact h2⟩
    · exact ⟨rfl, by omega⟩

theorem inputStep_inv (c : Nat) (s : State) (h : s.Inv) : (inputStep c s).Inv := by
  have hp : 0 < s.cfg.inputPollPeriod := Nat.lt_of_le_of_lt (Nat.zero_le _) h.inputTimer
  obtain ⟨h1, h2⟩ := inputPolls_fields (s.joypad.inputTimer + c)
    { s with joypad := { s.joypad with inputTimer := s.joypad.inputTimer + c } } hp (Nat.le_refl _)
  have f : inputStep c s =
      { s with joypad := (inputStep c s).joypad, iflag := (inputStep c s).iflag, free := (inputStep c s).free } := h1
  have base : State.Inv { inputStep c s with joypad := s.joypad } :=
    h.congr (by rw [f]) (by rw [f]) (by rw [f]) (by rw [f]) (by rw [f]) (by rw [f]) (by rw [f]) (by rw [f]) (by rw [f])
      (by rw [f]) rfl (by rw [f])
  exact { base with inputTimer := by rw [f]; exact h2 }

theorem serialMove_fields (s : State) :
    serialMove s = { s with serial := (serialMove s).serial, iflag := (serialMove s).iflag, free := (serialMove s).free } := by
  unfold serialMove
  split
  · dsimp only; split <;> rfl
  · rfl

theorem serialMove_inv (s : State) (h : s.Inv) : (serialMove s).Inv := by
  have f := serialMove_fields s
  exact h.congr (by rw [f]) (by rw [f]) (by rw [f]) (by rw [f]) (by rw [f]) (by rw [f]) (by rw [f]) (by rw [f]) (by rw [f])
    (by rw [f]) (by rw [f]) (by rw [f])

theorem wakeMove_fields (s : State) : wakeMove s = { s with mode := (wakeMove s).mode, free := (wakeMove s).free } := by
  unfold wakeMove; dsimp only; split <;> rfl

theorem wakeMove_inv (s : State) (h : s.Inv) : (wakeMove s).Inv := by
  have f := wakeMove_fields s
  exact h.congr (by rw [f]) (by rw [f]) (by rw [f]) (by rw [f]) (by rw [f]) (by rw [f]) (by rw [f]) (by rw [f]) (by rw [f])
    (by rw [f]) (by rw [f]) (by rw [f])

/-- The peripherals' part of a step keeps the invariant. -/
theorem advancePeripherals_inv (c : Nat) (s : State) (h : s.Inv) : (advancePeripherals c s).Inv :=
  inputStep_inv c _ (repeatTick_keeps ppuTick_inv c _ (repeatTick_keeps timerTick_inv c s h))

end Sys2Proof.Machine
end

