-- ==== Sys2Proof/Laws/Bus.lean ====
section
/-! SUPPORT. The bus: what a byte write can change at all, what it changes behind each address, and that it keeps the canonical form of
the memories (20_memory.md R42 to R75). -/

namespace Sys2Proof.Machine

/-- The OAM copy changes OAM and the model's read counter, nothing else (20_memory.md R58). -/
theorem dmaFold_eq (v : Byte) (l : List Nat) (s : State) :
    l.foldl (dmaByte v) s = { s with oam := (l.foldl (dmaByte v) s).oam, free := (l.foldl (dmaByte v) s).free } := by
  induction l generalizing s with
  | nil => rfl
  | cons i l ih => rw [List.foldl_cons, ih]; rfl

theorem dmaWrite_eq (v : Byte) (s : State) :
    dmaWrite v s = { s with dmaReg := v, oam := (dmaWrite v s).oam, free := (dmaWrite v s).free } := by
  unfold dmaWrite; rw [dmaFold_eq]

/-- Everything a byte write can do (20_memory.md R43, R48): it never changes the CPU's own state or the configuration. -/
theorem writeByte_eq (a : Word) (v : Byte) (s : State) :
    writeByte a v s =
      { s with ie := (writeByte a v s).ie, iflag := (writeByte a v s).iflag, timer := (writeByte a v s).timer,
               ppu := (writeByte a v s).ppu, dmaReg := (writeByte a v s).dmaReg,
               bootActive := (writeByte a v s).bootActive, mapper := (writeByte a v s).mapper,
               vram := (writeByte a v s).vram, wram := (writeByte a v s).wram, oam := (writeByte a v s).oam,
               hram := (writeByte a v s).hram, cartRam := (writeByte a v s).cartRam,
               joypad := (writeByte a v s).joypad, serial := (writeByte a v s).serial,
               free := (writeByte a v s).free, events := (writeByte a v s).events } := by
  unfold writeByte
  split
  case h_1 => unfold mapperWrite; (repeat' split) <;> rfl
  case h_2 => unfold mapperWrite; (repeat' split) <;> rfl
  case h_4 => unfold cartRamWrite; split <;> rfl
  case h_8 r _ =>
    cases r
    case dma => simp only [ioWrite]; rw [dmaWrite_eq]
    case sc => simp only [ioWrite, scWrite]; split <;> rfl
    case lcdc => simp only [ioWrite, lcdcWrite]; split <;> rfl
    case bootOff => simp only [ioWrite]; split <;> rfl
    all_goals rfl
  all_goals rfl

@[simp] theorem writeByte_cfg (a : Word) (v : Byte) (s : State) : (writeByte a v s).cfg = s.cfg := by
  rw [writeByte_eq]
@[simp] theorem writeByte_a (a : Word) (v : Byte) (s : State) : (writeByte a v s).a = s.a := by
  rw [writeByte_eq]
@[simp] theorem writeByte_b (a : Word) (v : Byte) (s : State) : (writeByte a v s).b = s.b := by
  rw [writeByte_eq]
@[simp] theorem writeByte_c (a : Word) (v : Byte) (s : State) : (writeByte a v s).c = s.c := by
  rw [writeByte_eq]
@[simp] theorem writeByte_d (a : Word) (v : Byte) (s : State) : (writeByte a v s).d = s.d := by
  rw [writeByte_eq]
@[simp] theorem writeByte_e (a : Word) (v : Byte) (s : State) : (writeByte a v s).e = s.e := by
  rw [writeByte_eq]
@[simp] theorem writeByte_h (a : Word) (v : Byte) (s : State) : (writeByte a v s).h = s.h := by
  rw [writeByte_eq]
@[simp] theorem writeByte_l (a : Word) (v : Byte) (s : State) : (writeByte a v s).l = s.l := by
  rw [writeByte_eq]
@[simp] theorem writeByte_fZ (a : Word) (v : Byte) (s : State) : (writeByte a v s).fZ = s.fZ := by
  rw [writeByte_eq]
@[simp] theorem writeByte_fN (a : Word) (v : Byte) (s : State) : (writeByte a v s).fN = s.fN := by
  rw [writeByte_eq]
@[simp] theorem writeByte_fH (a : Word) (v : Byte) (s : State) : (writeByte a v s).fH = s.fH := by
  rw [writeByte_eq]
@[simp] theorem writeByte_fC (a : Word) (v : Byte) (s : State) : (writeByte a v s).fC = s.fC := by
  rw [writeByte_eq]
@[simp] theorem writeByte_sp (a : Word) (v : Byte) (s : State) : (writeByte a v s).sp = s.sp := by
  rw [writeByte_eq]
@[simp] theorem writeByte_pc (a : Word) (v : Byte) (s : State) : (writeByte a v s).pc = s.pc := by
  rw [writeByte_eq]
@[simp] theorem writeByte_ime (a : Word) (v : Byte) (s : State) : (writeByte a v s).ime = s.ime := by
  rw [writeByte_eq]
@[simp] theorem writeByte_eiPending (a : Word) (v : Byte) (s : State) : (writeByte a v s).eiPending = s.eiPending := by
  rw [writeByte_eq]
@[simp] theorem writeByte_mode (a : Word) (v : Byte) (s : State) : (writeByte a v s).mode = s.mode := by
  rw [writeByte_eq]
@[simp] theorem writeByte_haltBug (a : Word) (v : Byte) (s : State) : (writeByte a v s).haltBug = s.haltBug := by
  rw [writeByte_eq]
@[simp] theorem writeByte_cycles (a : Word) (v : Byte) (s : State) : (writeByte a v s).cycles = s.cycles := by
  rw [writeByte_eq]

/-! ### The stack push: SP moves, the rest of the CPU stays -/

@[simp] theorem push16_cfg (v : Word) (s : State) : (push16 v s).cfg = s.cfg := by simp [push16]
@[simp] theorem push16_a (v : Word) (s : State) : (push16 v s).a = s.a := by simp [push16]
@[simp] theorem push16_b (v : Word) (s : State) : (push16 v s).b = s.b := by simp [push16]
@[simp] theorem push16_c (v : Word) (s : State) : (push16 v s).c = s.c := by simp [push16]
@[simp] theorem push16_d (v : Word) (s : State) : (push16 v s).d = s.d := by simp [push16]
@[simp] theorem push16_e (v : Word) (s : State) : (push16 v s).e = s.e := by simp [push16]
@[simp] theorem push16_h (v : Word) (s : State) : (push16 v s).h = s.h := by simp [push16]
@[simp] theorem push16_l (v : Word) (s : State) : (push16 v s).l = s.l := by simp [push16]
@[simp] theorem push16_fZ (v : Word) (s : State) : (push16 v s).fZ = s.fZ := by simp [push16]
@[simp] theorem push16_fN (v : Word) (s : State) : (push16 v s).fN = s.fN := by simp [push16]
@[simp] theorem push16_fH (v : Word) (s : State) : (push16 v s).fH = s.fH := by simp [push16]
@[simp] theorem push16_fC (v : Word) (s : State) : (push16 v s).fC = s.fC := by simp [push16]
@[simp] theorem push16_sp (v : Word) (s : State) : (push16 v s).sp = s.sp - 2 := by simp [push16]
@[simp] theorem push16_pc (v : Word) (s : State) : (push16 v s).pc = s.pc := by simp [push16]
@[simp] theorem push16_ime (v : Word) (s : State) : (push16 v s).ime = s.ime := by simp [push16]
@[simp] theorem push16_eiPending (v : Word) (s : State) : (push16 v s).eiPending = s.eiPending := by simp [push16]
@[simp] theorem push16_mode (v : Word) (s : State) : (push16 v s).mode = s.mode := by simp [push16]
@[simp] theorem push16_haltBug (v : Word) (s : State) : (push16 v s).haltBug = s.haltBug := by simp [push16]
@[simp] theorem push16_cycles (v : Word) (s : State) : (push16 v s).cycles = s.cycles := by simp [push16]
/-! ### The address decoder -/

/-- The address decoder, range by range (20_memory.md R41 to R43, R53). -/
theorem region_cases (a : Word) :
    (a.toNat ≤ 0x3FFF ∧ region a = .romLow a.toNat) ∨
    ((0x4000 ≤ a.toNat ∧ a.toNat ≤ 0x7FFF) ∧ region a = .romHigh (a.toNat - 0x4000)) ∨
    ((0x8000 ≤ a.toNat ∧ a.toNat ≤ 0x9FFF) ∧ region a = .vram (a.toNat - 0x8000)) ∨
    ((0xA000 ≤ a.toNat ∧ a.toNat ≤ 0xBFFF) ∧ region a = .cartRam (a.toNat - 0xA000)) ∨
    ((0xC000 ≤ a.toNat ∧ a.toNat ≤ 0xDFFF) ∧ region a = .wram (a.toNat - 0xC000)) ∨
    ((0xE000 ≤ a.toNat ∧ a.toNat ≤ 0xFDFF) ∧ region a = .wram (a.toNat - 0xE000)) ∨
    ((0xFE00 ≤ a.toNat ∧ a.toNat ≤ 0xFE9F) ∧ region a = .oam (a.toNat - 0xFE00)) ∨
    ((0xFEA0 ≤ a.toNat ∧ a.toNat ≤ 0xFEFF) ∧ region a = .unusable) ∨
    ((0xFF00 ≤ a.toNat ∧ a.toNat ≤ 0xFF7F) ∧ region a = .io (ioReg a.toNat)) ∨
    ((0xFF80 ≤ a.toNat ∧ a.toNat ≤ 0xFFFE) ∧ region a = .hram (a.toNat - 0xFF80)) ∨
    (a.toNat = 0xFFFF ∧ region a = .ie) := by
  have := a.isLt
  unfold region
  dsimp only
  generalize a.toNat = n at *
  split_ifs
  · exact .inl ⟨by omega, rfl⟩
  · exact .inr (.inl ⟨by omega, rfl⟩)
  · exact .inr (.inr (.inl ⟨by omega, rfl⟩))
  · exact .inr (.inr (.inr (.inl ⟨by omega, rfl⟩)))
  · exact .inr (.inr (.inr (.inr (.inl ⟨by omega, rfl⟩))))
  · exact .inr (.inr (.inr (.inr (.inr (.inl ⟨by omega, rfl⟩)))))
  · exact .inr (.inr (.inr (.inr (.inr (.inr (.inl ⟨by omega, rfl⟩))))))
  · exact .inr (.inr (.inr (.inr (.inr (.inr (.inr (.inl ⟨by omega, rfl⟩)))))))
  · exact .inr (.inr (.inr (.inr (.inr (.inr (.inr (.inr (.inl ⟨by omega, rfl⟩))))))))
  · exact .inr (.inr (.inr (.inr (.inr (.inr (.inr (.inr (.inr (.inl ⟨by omega, rfl⟩)))))))))
  · exact .inr (.inr (.inr (.inr (.inr (.inr (.inr (.inr (.inr (.inr ⟨by omega, rfl⟩)))))))))

/-- Each region's offset is inside the region's memory (20_memory.md R41). -/
theorem region_bounds (a : Word) :
    (∀ off, region a = .romLow off → off = a.toNat ∧ off ≤ 0x3FFF) ∧
    (∀ off, region a = .romHigh off → off + 0x4000 = a.toNat ∧ off ≤ 0x3FFF) ∧
    (∀ off, region a = .vram off → off + 0x8000 = a.toNat ∧ off < 8192) ∧
    (∀ off, region a = .cartRam off → off + 0xA000 = a.toNat ∧ off < 8192) ∧
    (∀ off, region a = .wram off → off + 0xC000 = storageCell a ∧ off < 8192) ∧
    (∀ off, region a = .oam off → off + 0xFE00 = a.toNat ∧ off < 160) ∧
    (∀ off, region a = .hram off → off + 0xFF80 = a.toNat ∧ off < 127) := by
  unfold storageCell
  obtain ⟨h, e⟩ | ⟨h, e⟩ | ⟨h, e⟩ | ⟨h, e⟩ | ⟨h, e⟩ | ⟨h, e⟩ | ⟨h, e⟩ | ⟨h, e⟩ | ⟨h, e⟩ | ⟨h, e⟩ | ⟨h, e⟩ := region_cases a <;>
    rw [e] <;> refine ⟨?_, ?_, ?_, ?_, ?_, ?_, ?_⟩ <;> intro off ho <;>
    (injection ho; try first | omega | (split <;> omega))

/-! ### The invariant -/

/-- The key of the cartridge RAM window is inside the cartridge's RAM (20_memory.md R52, R71, R75). -/
theorem cartRamKey_lt (s : State) (off : Nat) (he : cartRamEnabled s = true) (ho : off < 8192) :
    cartRamKey s off < 8192 * s.cfg.cart.ramBanks := by
  have hb : 0 < s.cfg.cart.ramBanks := by
    unfold cartRamEnabled at he
    simp only [Bool.and_eq_true, decide_eq_true_eq] at he
    exact he.1
  have hr : ramBank s < s.cfg.cart.ramBanks := by
    unfold ramBank
    split
    · exact hb
    · split
      · exact Nat.mod_lt _ hb
      · exact hb
  unfold cartRamKey
  calc ramBank s * 8192 + off < ramBank s * 8192 + 8192 := by omega
    _ = 8192 * (ramBank s + 1) := by ring
    _ ≤ 8192 * s.cfg.cart.ramBanks := Nat.mul_le_mul_left _ hr

theorem mapperWrite_inv (n : Nat) (v : Byte) (s : State) (h : s.Inv) : (mapperWrite n v s).Inv := by
  unfold mapperWrite
  split
  · exact h
  · split
    · exact { h with }
    · split
      · refine { h with bank1 := ?_ }
        dsimp only
        split
        · decide
        · assumption
      · split
        · exact { h with }
        · exact { h with }

theorem dmaFold_inv (v : Byte) (l : List Nat) (s : State) (hl : ∀ i ∈ l, i < 160) (h : s.Inv) :
    (l.foldl (dmaByte v) s).Inv := by
  induction l generalizing s with
  | nil => exact h
  | cons i l ih =>
    refine ih _ (fun j hj => hl j (List.mem_cons_of_mem _ hj)) ?_
    exact { h with oamWf := Memory.set_wf _ _ _ _ h.oamWf (hl i List.mem_cons_self) }

theorem lcdcWrite_inv (v : Byte) (s : State) (h : s.Inv) : (lcdcWrite v s).Inv := by
  unfold lcdcWrite
  dsimp only
  split
  · rename_i h1 h2
    exact { h with ly := by simp, dot := by simp, lcdOff := by simp,
                   lcdMode := by intro h3; exact absurd h3 (by simpa [lcdOn] using h2) }
  · rename_i h1 h2
    refine { h with ly := by simp [drawMode3], dot := by simp [drawMode3], m3low := (mode3Len_range _ _).1,
                    m3high := (mode3Len_range _ _).2,
                    lcdOff := by intro h3; exact absurd h3 (by simpa [lcdOn, drawMode3] using h2),
                    lcdMode := by intro _; rfl }
  · rename_i h1 h2
    have e : lcdOn { s.ppu with lcdc := v } = lcdOn s.ppu := by
      have : lcdOn { s.ppu with lcdc := v } = v.getLsbD 7 := rfl
      rw [this]
      cases hb : lcdOn s.ppu <;> cases hv : v.getLsbD 7 <;> simp_all
    exact { h with lcdOff := by intro h3; exact h.lcdOff (e ▸ h3), lcdMode := by intro h3; exact h.lcdMode (e ▸ h3) }

theorem ioWrite_inv (r : IoReg) (a : Word) (v : Byte) (s : State) (h : s.Inv) : (ioWrite r a v s).Inv := by
  cases r
  case lcdc => exact lcdcWrite_inv v s h
  case dma => exact dmaFold_inv v _ _ (by intro i hi; exact List.mem_range.1 hi) { h with }
  case sc => simp only [ioWrite, scWrite]; split <;> exact { h with }
  case bootOff =>
    simp only [ioWrite]; split
    · exact h
    · exact { h with bootImage := by intro hb; cases hb }
  all_goals exact { h with }

/-- A byte write keeps the invariant (20_memory.md R43). -/
theorem writeByte_inv (a : Word) (v : Byte) (s : State) (h : s.Inv) : (writeByte a v s).Inv := by
  obtain ⟨-, -, hv, hc, hw, ho, hh⟩ := region_bounds a
  unfold writeByte
  split
  case h_1 => exact mapperWrite_inv _ v s h
  case h_2 => exact mapperWrite_inv _ v s h
  case h_3 off hr => exact { h with vramWf := Memory.set_wf _ _ _ _ h.vramWf (hv off hr).2 }
  case h_4 off hr =>
    unfold cartRamWrite
    split
    · rename_i he
      exact { h with cartRamWf := Memory.set_wf _ _ _ _ h.cartRamWf (cartRamKey_lt s off he (hc off hr).2) }
    · exact h
  case h_5 off hr => exact { h with wramWf := Memory.set_wf _ _ _ _ h.wramWf (hw off hr).2 }
  case h_6 off hr => exact { h with oamWf := Memory.set_wf _ _ _ _ h.oamWf (ho off hr).2 }
  case h_7 => exact h
  case h_8 r _ => exact ioWrite_inv r a v s h
  case h_9 off hr => exact { h with hramWf := Memory.set_wf _ _ _ _ h.hramWf (hh off hr).2 }
  case h_10 => exact { h with }

theorem push16_inv (v : Word) (s : State) (h : s.Inv) : (push16 v s).Inv := by
  unfold push16
  exact writeByte_inv _ _ _ (writeByte_inv _ _ _ { h with })

/-! ### What a store reaches -/

/-- The one address of each register of the I/O region; the sound registers and the unmapped addresses have none of their own
(20_memory.md R56). -/
def IoReg.address (r : IoReg) : Option Nat :=
  match r with
  | .p1 => some 0xFF00
  | .sb => some 0xFF01
  | .sc => some 0xFF02
  | .div => some 0xFF04
  | .tima => some 0xFF05
  | .tma => some 0xFF06
  | .tac => some 0xFF07
  | .iflag => some 0xFF0F
  | .lcdc => some 0xFF40
  | .stat => some 0xFF41
  | .scy => some 0xFF42
  | .scx => some 0xFF43
  | .ly => some 0xFF44
  | .lyc => some 0xFF45
  | .dma => some 0xFF46
  | .bgp => some 0xFF47
  | .obp0 => some 0xFF48
  | .obp1 => some 0xFF49
  | .wy => some 0xFF4A
  | .wx => some 0xFF4B
  | .bootOff => some 0xFF50
  | .sound | .unmapped => none

theorem ioReg_address (n k : Nat) (h : (ioReg n).address = some k) : n = k := by
  have key : ∀ (r : IoReg) (P : Prop) [Decidable P] (q : IoReg), (∀ j, r.address = some j → P → n = j) →
      (q.address = some k → n = k) → ((if P then r else q).address = some k → n = k) := by
    intro r P _ q h1 h2 h3
    split at h3
    · exact h1 k h3 (by assumption)
    · exact h2 h3
  unfold ioReg at h
  revert h
  iterate 22 (refine key _ _ _ (by intro j hj hp; simp [IoReg.address] at hj; try omega) ?_)
  intro h; simp [IoReg.address] at h

/-- A write to one I/O register, read through another: only the pairs the spec names are coupled (20_memory.md R48). -/
theorem ioRead_ioWrite (x y : Nat) (a : Word) (v : Byte) (s : State)
    (same : ∀ k, (ioReg x).address = some k → k ≠ 0xFF44 → (ioReg y).address = some k → False)
    (lcdc : (ioReg x) = .lcdc → (ioReg y) ≠ .stat ∧ (ioReg y) ≠ .ly)
    (lyc : (ioReg x) = .lyc → (ioReg y) ≠ .stat) :
    ioRead (ioWrite (ioReg x) a v s) (ioReg y) = ioRead s (ioReg y) := by
  generalize ioReg x = rx at *
  generalize ioReg y = ry at *
  have hd : ∀ r, r ≠ .dma → ioRead (dmaWrite v s) r = ioRead s r := by
    intro r hr
    rw [dmaWrite_eq]
    cases r <;> first | rfl | exact absurd rfl hr
  have hl : ∀ r, r ≠ .lcdc → r ≠ .stat → r ≠ .ly → ioRead (lcdcWrite v s) r = ioRead s r := by
    intro r h1 h2 h3
    unfold lcdcWrite
    dsimp only
    cases r <;> first | exact absurd rfl h1 | exact absurd rfl h2 | exact absurd rfl h3 | (split <;> rfl)
  cases rx
  case dma =>
    refine hd ry (fun e => ?_)
    subst e; exact same _ rfl (by decide) rfl
  case lcdc =>
    refine hl ry (fun e => ?_) (lcdc rfl).1 (lcdc rfl).2
    subst e; exact same _ rfl (by decide) rfl
  case lyc =>
    have := lyc rfl
    cases ry <;> first | rfl | exact absurd rfl this | exact (same _ rfl (by decide) rfl).elim
  case sc =>
    simp only [ioWrite, scWrite]
    cases ry <;> first | exact (same _ rfl (by decide) rfl).elim | (split <;> rfl)
  case bootOff =>
    simp only [ioWrite]
    split
    · rfl
    · cases ry <;> rfl
  all_goals (cases ry <;> first | rfl | exact (same _ rfl (by decide) rfl).elim)

/-- What an I/O write leaves, whichever register it is. -/
theorem ioWrite_memories (r : IoReg) (a : Word) (v : Byte) (s : State) :
    (ioWrite r a v s).mapper = s.mapper ∧ (ioWrite r a v s).vram = s.vram ∧ (ioWrite r a v s).wram = s.wram ∧
    (ioWrite r a v s).hram = s.hram ∧ (ioWrite r a v s).cartRam = s.cartRam ∧ (ioWrite r a v s).ie = s.ie ∧
    (ioWrite r a v s).cfg = s.cfg ∧ (r ≠ .dma → (ioWrite r a v s).oam = s.oam) ∧
    (r ≠ .bootOff → (ioWrite r a v s).bootActive = s.bootActive) := by
  cases r
  case dma => simp only [ioWrite]; rw [dmaWrite_eq]; exact ⟨rfl, rfl, rfl, rfl, rfl, rfl, rfl, fun h => absurd rfl h, fun _ => rfl⟩
  case sc => simp only [ioWrite, scWrite]; split <;> exact ⟨rfl, rfl, rfl, rfl, rfl, rfl, rfl, fun _ => rfl, fun _ => rfl⟩
  case lcdc => simp only [ioWrite, lcdcWrite]; split <;> exact ⟨rfl, rfl, rfl, rfl, rfl, rfl, rfl, fun _ => rfl, fun _ => rfl⟩
  case bootOff =>
    simp only [ioWrite]; split <;> exact ⟨rfl, rfl, rfl, rfl, rfl, rfl, rfl, fun _ => rfl, fun h => by first | rfl | exact absurd rfl h⟩
  all_goals exact ⟨rfl, rfl, rfl, rfl, rfl, rfl, rfl, fun _ => rfl, fun _ => rfl⟩

/-- A read of `b` depends on the state behind `b` alone. -/
theorem byteAt_congr (s t : State) (b : Word)
    (rom : b.toNat ≤ 0x7FFF → t.cfg = s.cfg ∧ t.mapper = s.mapper ∧ (b.toNat ≤ 0xFF → t.bootActive = s.bootActive))
    (vram : 0x8000 ≤ b.toNat → b.toNat ≤ 0x9FFF → Memory.get t.vram (b.toNat - 0x8000) = Memory.get s.vram (b.toNat - 0x8000))
    (cart : 0xA000 ≤ b.toNat → b.toNat ≤ 0xBFFF → cartRamRead t (b.toNat - 0xA000) = cartRamRead s (b.toNat - 0xA000))
    (wram : 0xC000 ≤ b.toNat → b.toNat ≤ 0xFDFF →
      Memory.get t.wram (storageCell b - 0xC000) = Memory.get s.wram (storageCell b - 0xC000))
    (oam : 0xFE00 ≤ b.toNat → b.toNat ≤ 0xFE9F → Memory.get t.oam (b.toNat - 0xFE00) = Memory.get s.oam (b.toNat - 0xFE00))
    (io : 0xFF00 ≤ b.toNat → b.toNat ≤ 0xFF7F → ioRead t (ioReg b.toNat) = ioRead s (ioReg b.toNat))
    (hram : 0xFF80 ≤ b.toNat → b.toNat ≤ 0xFFFE → Memory.get t.hram (b.toNat - 0xFF80) = Memory.get s.hram (b.toNat - 0xFF80))
    (ie : b.toNat = 0xFFFF → t.ie = s.ie) : byteAt t b = byteAt s b := by
  unfold byteAt
  obtain ⟨h, e⟩ | ⟨h, e⟩ | ⟨h, e⟩ | ⟨h, e⟩ | ⟨h, e⟩ | ⟨h, e⟩ | ⟨h, e⟩ | ⟨h, e⟩ | ⟨h, e⟩ | ⟨h, e⟩ | ⟨h, e⟩ := region_cases b <;>
    rw [e] <;> dsimp only
  · obtain ⟨h1, h2, h3⟩ := rom (by omega)
    have hb : bootOverlay t b.toNat = bootOverlay s b.toNat := by
      unfold bootOverlay
      by_cases hh : b.toNat ≤ 0x00FF
      · rw [h1, h3 hh]
      · simp [hh]
    simp only [romLowRead, hb, romLowBank, h1, h2]
  · obtain ⟨h1, h2, h3⟩ := rom (by omega)
    simp only [romHighRead, romHighBank, h1, h2]
  · rw [vram h.1 h.2]
  · rw [cart h.1 h.2]
  · have hs : storageCell b - 0xC000 = b.toNat - 0xC000 := by unfold storageCell; split <;> omega
    rw [← hs, wram h.1 (by omega)]
  · have hs : storageCell b - 0xC000 = b.toNat - 0xE000 := by unfold storageCell; split <;> omega
    rw [← hs, wram (by omega) h.2]
  · rw [oam h.1 h.2]
  · exact io h.1 h.2
  · rw [hram h.1 h.2]
  · rw [ie h]

theorem mapperWrite_eq (n : Nat) (v : Byte) (s : State) :
    mapperWrite n v s = { s with mapper := (mapperWrite n v s).mapper } := by
  unfold mapperWrite; repeat' split
  all_goals rfl

theorem storeReaches_plain (a b : Word) (ha : (0x8000 ≤ a.toNat ∧ a.toNat ≤ 0xFE9F) ∨ 0xFF80 ≤ a.toNat)
    (h : storeReaches a b = false) : storageCell b ≠ storageCell a := by
  unfold storeReaches at h
  simpa [show ¬ a.toNat ≤ 0x7FFF by omega, show ¬ (0xFEA0 ≤ a.toNat ∧ a.toNat ≤ 0xFEFF) by omega,
    show ¬ (0xFF10 ≤ a.toNat ∧ a.toNat ≤ 0xFF3F) by omega, show a.toNat ≠ 0xFF40 by omega, show a.toNat ≠ 0xFF44 by omega,
    show a.toNat ≠ 0xFF45 by omega, show a.toNat ≠ 0xFF46 by omega, show a.toNat ≠ 0xFF50 by omega,
    show ¬ ((0xFF4C ≤ a.toNat ∧ a.toNat ≤ 0xFF7F) ∨ a.toNat = 0xFF03 ∨ (0xFF08 ≤ a.toNat ∧ a.toNat ≤ 0xFF0E)) by omega,
    -not_and, -not_or] using h

theorem storeReaches_rom (a b : Word) (ha : a.toNat ≤ 0x7FFF) (h : storeReaches a b = false) :
    ¬(b.toNat ≤ 0x7FFF ∨ (0xA000 ≤ b.toNat ∧ b.toNat ≤ 0xBFFF)) := by
  unfold storeReaches at h
  simp [ha] at h; omega

/-- A store to an I/O register reaches that register, and beside it only what the spec couples to it. -/
theorem storeReaches_io (a b : Word) (ha : 0xFF00 ≤ a.toNat ∧ a.toNat ≤ 0xFF7F) (h : storeReaches a b = false) :
    (a.toNat = 0xFF40 → ¬(b.toNat = 0xFF40 ∨ b.toNat = 0xFF41 ∨ b.toNat = 0xFF44)) ∧
    (a.toNat = 0xFF45 → ¬(b.toNat = 0xFF41 ∨ b.toNat = 0xFF45)) ∧
    (a.toNat = 0xFF46 → ¬(b.toNat = 0xFF46 ∨ (0xFE00 ≤ b.toNat ∧ b.toNat ≤ 0xFE9F))) ∧
    (a.toNat = 0xFF50 → ¬(b.toNat ≤ 0x00FF)) ∧
    (∀ k, (ioReg a.toNat).address = some k → k ≠ 0xFF44 → k ≠ 0xFF50 → b.toNat ≠ a.toNat) := by
  unfold storeReaches at h
  dsimp only at h
  rw [if_neg (by omega), if_neg (by omega)] at h
  refine ⟨?_, ?_, ?_, ?_, ?_⟩
  · intro e; simp [e] at h; omega
  · intro e; simp [e] at h; omega
  · intro e; simp [e] at h; omega
  · intro e; simpa [e, -not_and, -not_or] using h
  · intro k hk h44 h50 hb
    have hka := ioReg_address _ _ hk
    have hb' : storageCell b = storageCell a := by unfold storageCell; rw [hb]
    have hu : ∀ j, (ioReg j).address = some j → ¬((0xFF4C ≤ j ∧ j ≤ 0xFF7F) ∨ j = 0xFF03 ∨ (0xFF08 ≤ j ∧ j ≤ 0xFF0E)) ∨ j = 0xFF50 := by
      intro j hj
      by_contra hc
      simp only [not_or] at hc
      unfold ioReg at hj
      repeat (rw [if_neg (by omega)] at hj)
      simp [IoReg.address] at hj
    have hs : ∀ j, (ioReg j).address = some j → ¬(0xFF10 ≤ j ∧ j ≤ 0xFF3F) := by
      intro j hj hc
      unfold ioReg at hj
      iterate 8 (rw [if_neg (by omega)] at hj)
      rw [if_pos hc] at hj
      simp [IoReg.address] at hj
    rw [← hka] at hk h44 h50
    have h1 := hu _ hk
    have h2 := hs _ hk
    rw [if_neg h2] at h
    by_cases e40 : a.toNat = 0xFF40
    · simp [e40, hb] at h
    · by_cases e45 : a.toNat = 0xFF45
      · simp [e45, hb] at h
      · by_cases e46 : a.toNat = 0xFF46
        · simp [e46, hb] at h
        · rw [if_neg e40, if_neg h44, if_neg e45, if_neg e46, if_neg h50, if_neg (by omega)] at h
          simp [hb'] at h

theorem storageCell_cases (a : Word) :
    (0xE000 ≤ a.toNat ∧ a.toNat ≤ 0xFDFF ∧ storageCell a + 0x2000 = a.toNat) ∨
    (¬(0xE000 ≤ a.toNat ∧ a.toNat ≤ 0xFDFF) ∧ storageCell a = a.toNat) := by
  unfold storageCell
  split
  · left; omega
  · right; exact ⟨by assumption, rfl⟩

/-- A read shows after a byte write what it showed before, unless the store reaches it: the complete list of 20_memory.md R48. -/
theorem byteAt_writeByte (a b : Word) (v : Byte) (s : State) (h : s.Inv) (hr : storeReaches a b = false) :
    byteAt (writeByte a v s) b = byteAt s b := by
  have hal := a.isLt
  have hbl := b.isLt
  have hA := storageCell_cases a
  have hB := storageCell_cases b
  unfold writeByte
  obtain ⟨ha, e⟩ | ⟨ha, e⟩ | ⟨ha, e⟩ | ⟨ha, e⟩ | ⟨ha, e⟩ | ⟨ha, e⟩ | ⟨ha, e⟩ | ⟨ha, e⟩ | ⟨ha, e⟩ | ⟨ha, e⟩ | ⟨ha, e⟩ := region_cases a <;>
    rw [e] <;> dsimp only
  · have := storeReaches_rom a b (by omega) hr
    rw [mapperWrite_eq]
    apply byteAt_congr <;> intros <;> first | rfl | omega
  · have := storeReaches_rom a b ha.2 hr
    rw [mapperWrite_eq]
    apply byteAt_congr <;> intros <;> first | rfl | omega
  · have hp := storeReaches_plain a b (by omega) hr
    have : b.toNat - 0x8000 ≠ a.toNat - 0x8000 ∨ ¬(0x8000 ≤ b.toNat ∧ b.toNat ≤ 0x9FFF) := by omega
    apply byteAt_congr
    case vram =>
      intro h1 h2
      dsimp only
      rw [Memory.get_set _ _ _ _ _ h.vramWf, if_neg (by omega)]
    all_goals intros; first | rfl | exact ⟨rfl, rfl, fun _ => rfl⟩
  · have hp := storeReaches_plain a b (by omega) hr
    have hne : b.toNat - 0xA000 ≠ a.toNat - 0xA000 ∨ ¬(0xA000 ≤ b.toNat ∧ b.toNat ≤ 0xBFFF) := by omega
    unfold cartRamWrite
    split
    · apply byteAt_congr
      case cart =>
        intro h1 h2
        have hk2 : cartRamKey s (b.toNat - 0xA000) ≠ cartRamKey s (a.toNat - 0xA000) := by unfold cartRamKey; omega
        unfold cartRamRead
        have hk : ∀ m : Memory, cartRamKey { s with cartRam := m } (b.toNat - 0xA000) = cartRamKey s (b.toNat - 0xA000) := fun _ => rfl
        have he : ∀ m : Memory, cartRamEnabled { s with cartRam := m } = cartRamEnabled s := fun _ => rfl
        rw [he, hk]
        dsimp only
        rw [Memory.get_set _ _ _ _ _ h.cartRamWf, if_neg hk2]
      all_goals intros; first | rfl | exact ⟨rfl, rfl, fun _ => rfl⟩
    · rfl
  · have hp := storeReaches_plain a b (by omega) hr
    have hne : 0xC000 ≤ b.toNat → b.toNat ≤ 0xFDFF → storageCell b - 0xC000 ≠ a.toNat - 0xC000 := by omega
    apply byteAt_congr
    case wram =>
      intro h1 h2
      dsimp only
      rw [Memory.get_set _ _ _ _ _ h.wramWf, if_neg (hne h1 h2)]
    all_goals intros; first | rfl | exact ⟨rfl, rfl, fun _ => rfl⟩
  · have hp := storeReaches_plain a b (by omega) hr
    have hne : 0xC000 ≤ b.toNat → b.toNat ≤ 0xFDFF → storageCell b - 0xC000 ≠ a.toNat - 0xE000 := by omega
    apply byteAt_congr
    case wram =>
      intro h1 h2
      dsimp only
      rw [Memory.get_set _ _ _ _ _ h.wramWf, if_neg (hne h1 h2)]
    all_goals intros; first | rfl | exact ⟨rfl, rfl, fun _ => rfl⟩
  · have hp := storeReaches_plain a b (by omega) hr
    have hne : 0xFE00 ≤ b.toNat → b.toNat ≤ 0xFE9F → b.toNat - 0xFE00 ≠ a.toNat - 0xFE00 := by omega
    apply byteAt_congr
    case oam =>
      intro h1 h2
      dsimp only
      rw [Memory.get_set _ _ _ _ _ h.oamWf, if_neg (hne h1 h2)]
    all_goals intros; first | rfl | exact ⟨rfl, rfl, fun _ => rfl⟩
  · obtain ⟨m, vr, w, hr', c, i, cf, o, bo⟩ := ioWrite_memories (ioReg a.toNat) a v s
    obtain ⟨r40, r45, r46, r50, rs⟩ := storeReaches_io a b ha hr
    have hadr : ∀ r k, ioReg a.toNat = r → r.address = some k → a.toNat = k := by
      intro r k hr hk; exact ioReg_address _ _ (hr ▸ hk)
    have hbdr : ∀ r k, ioReg b.toNat = r → r.address = some k → b.toNat = k := by
      intro r k hr hk; exact ioReg_address _ _ (hr ▸ hk)
    apply byteAt_congr
    case rom => intro hb; exact ⟨cf, m, fun h1 => bo (fun hh => r50 (hadr _ _ hh rfl) h1)⟩
    case vram => intro _ _; rw [vr]
    case cart => intro _ _; simp only [cartRamRead, cartRamEnabled, cartRamKey, ramBank, cf, m, c]; rfl
    case wram => intro _ _; rw [w]
    case oam => intro h1 h2; rw [o (fun hh => r46 (hadr _ _ hh rfl) (.inr ⟨h1, h2⟩))]
    case hram => intro _ _; rw [hr']
    case ie => intro _; exact i
    case io =>
      intro h1 h2
      by_cases hsame : ioReg a.toNat = .bootOff ∧ ioReg b.toNat = .bootOff
      · rw [hsame.1, hsame.2]; rfl
      · apply ioRead_ioWrite
        · intro k ha' hk hb'
          have e1 := ioReg_address _ _ ha'
          have e2 := ioReg_address _ _ hb'
          by_cases h50 : k = 0xFF50
          · apply hsame
            subst h50
            rw [e1, e2]; exact ⟨rfl, rfl⟩
          · exact rs k ha' hk h50 (by omega)
        · intro hh
          have := r40 (hadr _ _ hh rfl)
          exact ⟨fun hb => this (.inr (.inl (hbdr _ _ hb rfl))), fun hb => this (.inr (.inr (hbdr _ _ hb rfl)))⟩
        · intro hh hb
          exact r45 (hadr _ _ hh rfl) (.inl (hbdr _ _ hb rfl))
  · have hp := storeReaches_plain a b (by omega) hr
    have hne : 0xFF80 ≤ b.toNat → b.toNat ≤ 0xFFFE → b.toNat - 0xFF80 ≠ a.toNat - 0xFF80 := by omega
    apply byteAt_congr
    case hram =>
      intro h1 h2
      dsimp only
      rw [Memory.get_set _ _ _ _ _ h.hramWf, if_neg (hne h1 h2)]
    all_goals intros; first | rfl | exact ⟨rfl, rfl, fun _ => rfl⟩
  · have hp := storeReaches_plain a b (by omega) hr
    apply byteAt_congr
    case ie => intro h1; exact absurd (by unfold storageCell; rw [h1, ha]) hp
    all_goals intros; first | rfl | exact ⟨rfl, rfl, fun _ => rfl⟩

end Sys2Proof.Machine
end

