-- ==== Sys2Proof/Laws/Cases.lean ====
section
/-! SUPPORT. Every instruction is an instance of a register-indexed family or one of the single rows: the case split over the 502
constructors of `Instr`, made once. -/

namespace Sys2Proof

/-- To prove something of every instruction, prove it of every family and of every single row. -/
theorem instr_cases {P : Instr → Prop}
    (h_ldRegReg : ∀ (x : Reg8) (y : Reg8), P (Form.ldRegReg x y))
    (h_ldRegImm : ∀ (x : Reg8) (n : Byte), P (Form.ldRegImm x n))
    (h_ldRegMhl : ∀ (x : Reg8), P (Form.ldRegMhl x))
    (h_ldMhlReg : ∀ (x : Reg8), P (Form.ldMhlReg x))
    (h_ldPairImm : ∀ (x : Pair16) (nn : Word), P (Form.ldPairImm x nn))
    (h_push : ∀ (x : StackPair), P (Form.push x))
    (h_pop : ∀ (x : StackPair), P (Form.pop x))
    (h_aluReg : ∀ (x : AluOp) (y : Reg8), P (Form.aluReg x y))
    (h_aluMhl : ∀ (x : AluOp), P (Form.aluMhl x))
    (h_aluImm : ∀ (x : AluOp) (n : Byte), P (Form.aluImm x n))
    (h_incReg : ∀ (x : Reg8), P (Form.incReg x))
    (h_decReg : ∀ (x : Reg8), P (Form.decReg x))
    (h_addHlPair : ∀ (x : Pair16), P (Form.addHlPair x))
    (h_incPair : ∀ (x : Pair16), P (Form.incPair x))
    (h_decPair : ∀ (x : Pair16), P (Form.decPair x))
    (h_accRot : ∀ (x : AccRotOp), P (Form.accRot x))
    (h_rot : ∀ (x : RotOp) (y : Operand8), P (Form.rot x y))
    (h_bit : ∀ (x : BitIndex) (y : Operand8), P (Form.bit x y))
    (h_res : ∀ (x : BitIndex) (y : Operand8), P (Form.res x y))
    (h_set : ∀ (x : BitIndex) (y : Operand8), P (Form.set x y))
    (h_jpCond : ∀ (x : Cond) (nn : Word), P (Form.jpCond x nn))
    (h_jrCond : ∀ (x : Cond) (e : Byte), P (Form.jrCond x e))
    (h_callCond : ∀ (x : Cond) (nn : Word), P (Form.callCond x nn))
    (h_retCond : ∀ (x : Cond), P (Form.retCond x))
    (h_rst : ∀ (x : RstIndex), P (Form.rst x))
    (h_ld_mnn_sp : ∀ (nn : Word), P (.ld_mnn_sp nn))
    (h_stop : ∀ (n : Byte), P (.stop n))
    (h_jr_e : ∀ (e : Byte), P (.jr_e e))
    (h_ld_mhl_n : ∀ (n : Byte), P (.ld_mhl_n n))
    (h_jp_nn : ∀ (nn : Word), P (.jp_nn nn))
    (h_call_nn : ∀ (nn : Word), P (.call_nn nn))
    (h_unmapped : ∀ (op : Byte), P (.unmapped op))
    (h_ldh_mn_a : ∀ (n : Byte), P (.ldh_mn_a n))
    (h_add_sp_e : ∀ (e : Byte), P (.add_sp_e e))
    (h_ld_mnn_a : ∀ (nn : Word), P (.ld_mnn_a nn))
    (h_ldh_a_mn : ∀ (n : Byte), P (.ldh_a_mn n))
    (h_ld_hl_sp_e : ∀ (e : Byte), P (.ld_hl_sp_e e))
    (h_ld_a_mnn : ∀ (nn : Word), P (.ld_a_mnn nn))
    (h_nop : P .nop)
    (h_ld_mbc_a : P .ld_mbc_a)
    (h_ld_a_mbc : P .ld_a_mbc)
    (h_ld_mde_a : P .ld_mde_a)
    (h_ld_a_mde : P .ld_a_mde)
    (h_ld_mhli_a : P .ld_mhli_a)
    (h_daa : P .daa)
    (h_ld_a_mhli : P .ld_a_mhli)
    (h_cpl : P .cpl)
    (h_ld_mhld_a : P .ld_mhld_a)
    (h_inc_mhl : P .inc_mhl)
    (h_dec_mhl : P .dec_mhl)
    (h_scf : P .scf)
    (h_ld_a_mhld : P .ld_a_mhld)
    (h_ccf : P .ccf)
    (h_halt : P .halt)
    (h_ret : P .ret)
    (h_prefix_cb : P .prefix_cb)
    (h_reti : P .reti)
    (h_ldh_mc_a : P .ldh_mc_a)
    (h_jp_hl : P .jp_hl)
    (h_ldh_a_mc : P .ldh_a_mc)
    (h_di : P .di)
    (h_ld_sp_hl : P .ld_sp_hl)
    (h_ei : P .ei)
    (i : Instr) : P i := by
  cases i
  case ld_bc_nn v => exact h_ldPairImm .bc v
  case ld_b_n v => exact h_ldRegImm .b v
  case ld_mnn_sp v => exact h_ld_mnn_sp v
  case ld_c_n v => exact h_ldRegImm .c v
  case stop v => exact h_stop v
  case ld_de_nn v => exact h_ldPairImm .de v
  case ld_d_n v => exact h_ldRegImm .d v
  case jr_e v => exact h_jr_e v
  case ld_e_n v => exact h_ldRegImm .e v
  case jr_nz_e v => exact h_jrCond .nz v
  case ld_hl_nn v => exact h_ldPairImm .hl v
  case ld_h_n v => exact h_ldRegImm .h v
  case jr_z_e v => exact h_jrCond .z v
  case ld_l_n v => exact h_ldRegImm .l v
  case jr_nc_e v => exact h_jrCond .nc v
  case ld_sp_nn v => exact h_ldPairImm .sp v
  case ld_mhl_n v => exact h_ld_mhl_n v
  case jr_c_e v => exact h_jrCond .c v
  case ld_a_n v => exact h_ldRegImm .a v
  case jp_nz_nn v => exact h_jpCond .nz v
  case jp_nn v => exact h_jp_nn v
  case call_nz_nn v => exact h_callCond .nz v
  case add_a_n v => exact h_aluImm .add v
  case jp_z_nn v => exact h_jpCond .z v
  case call_z_nn v => exact h_callCond .z v
  case call_nn v => exact h_call_nn v
  case adc_a_n v => exact h_aluImm .adc v
  case jp_nc_nn v => exact h_jpCond .nc v
  case unmapped v => exact h_unmapped v
  case call_nc_nn v => exact h_callCond .nc v
  case sub_n v => exact h_aluImm .sub v
  case jp_c_nn v => exact h_jpCond .c v
  case call_c_nn v => exact h_callCond .c v
  case sbc_a_n v => exact h_aluImm .sbc v
  case ldh_mn_a v => exact h_ldh_mn_a v
  case and_n v => exact h_aluImm .and v
  case add_sp_e v => exact h_add_sp_e v
  case ld_mnn_a v => exact h_ld_mnn_a v
  case xor_n v => exact h_aluImm .xor v
  case ldh_a_mn v => exact h_ldh_a_mn v
  case or_n v => exact h_aluImm .or v
  case ld_hl_sp_e v => exact h_ld_hl_sp_e v
  case ld_a_mnn v => exact h_ld_a_mnn v
  case cp_n v => exact h_aluImm .cp v
  case nop => exact h_nop
  case ld_mbc_a => exact h_ld_mbc_a
  case inc_bc => exact h_incPair .bc
  case inc_b => exact h_incReg .b
  case dec_b => exact h_decReg .b
  case rlca => exact h_accRot .rlca
  case add_hl_bc => exact h_addHlPair .bc
  case ld_a_mbc => exact h_ld_a_mbc
  case dec_bc => exact h_decPair .bc
  case inc_c => exact h_incReg .c
  case dec_c => exact h_decReg .c
  case rrca => exact h_accRot .rrca
  case ld_mde_a => exact h_ld_mde_a
  case inc_de => exact h_incPair .de
  case inc_d => exact h_incReg .d
  case dec_d => exact h_decReg .d
  case rla => exact h_accRot .rla
  case add_hl_de => exact h_addHlPair .de
  case ld_a_mde => exact h_ld_a_mde
  case dec_de => exact h_decPair .de
  case inc_e => exact h_incReg .e
  case dec_e => exact h_decReg .e
  case rra => exact h_accRot .rra
  case ld_mhli_a => exact h_ld_mhli_a
  case inc_hl => exact h_incPair .hl
  case inc_h => exact h_incReg .h
  case dec_h => exact h_decReg .h
  case daa => exact h_daa
  case add_hl_hl => exact h_addHlPair .hl
  case ld_a_mhli => exact h_ld_a_mhli
  case dec_hl => exact h_decPair .hl
  case inc_l => exact h_incReg .l
  case dec_l => exact h_decReg .l
  case cpl => exact h_cpl
  case ld_mhld_a => exact h_ld_mhld_a
  case inc_sp => exact h_incPair .sp
  case inc_mhl => exact h_inc_mhl
  case dec_mhl => exact h_dec_mhl
  case scf => exact h_scf
  case add_hl_sp => exact h_addHlPair .sp
  case ld_a_mhld => exact h_ld_a_mhld
  case dec_sp => exact h_decPair .sp
  case inc_a => exact h_incReg .a
  case dec_a => exact h_decReg .a
  case ccf => exact h_ccf
  case ld_b_b => exact h_ldRegReg .b .b
  case ld_b_c => exact h_ldRegReg .b .c
  case ld_b_d => exact h_ldRegReg .b .d
  case ld_b_e => exact h_ldRegReg .b .e
  case ld_b_h => exact h_ldRegReg .b .h
  case ld_b_l => exact h_ldRegReg .b .l
  case ld_b_mhl => exact h_ldRegMhl .b
  case ld_b_a => exact h_ldRegReg .b .a
  case ld_c_b => exact h_ldRegReg .c .b
  case ld_c_c => exact h_ldRegReg .c .c
  case ld_c_d => exact h_ldRegReg .c .d
  case ld_c_e => exact h_ldRegReg .c .e
  case ld_c_h => exact h_ldRegReg .c .h
  case ld_c_l => exact h_ldRegReg .c .l
  case ld_c_mhl => exact h_ldRegMhl .c
  case ld_c_a => exact h_ldRegReg .c .a
  case ld_d_b => exact h_ldRegReg .d .b
  case ld_d_c => exact h_ldRegReg .d .c
  case ld_d_d => exact h_ldRegReg .d .d
  case ld_d_e => exact h_ldRegReg .d .e
  case ld_d_h => exact h_ldRegReg .d .h
  case ld_d_l => exact h_ldRegReg .d .l
  case ld_d_mhl => exact h_ldRegMhl .d
  case ld_d_a => exact h_ldRegReg .d .a
  case ld_e_b => exact h_ldRegReg .e .b
  case ld_e_c => exact h_ldRegReg .e .c
  case ld_e_d => exact h_ldRegReg .e .d
  case ld_e_e => exact h_ldRegReg .e .e
  case ld_e_h => exact h_ldRegReg .e .h
  case ld_e_l => exact h_ldRegReg .e .l
  case ld_e_mhl => exact h_ldRegMhl .e
  case ld_e_a => exact h_ldRegReg .e .a
  case ld_h_b => exact h_ldRegReg .h .b
  case ld_h_c => exact h_ldRegReg .h .c
  case ld_h_d => exact h_ldRegReg .h .d
  case ld_h_e => exact h_ldRegReg .h .e
  case ld_h_h => exact h_ldRegReg .h .h
  case ld_h_l => exact h_ldRegReg .h .l
  case ld_h_mhl => exact h_ldRegMhl .h
  case ld_h_a => exact h_ldRegReg .h .a
  case ld_l_b => exact h_ldRegReg .l .b
  case ld_l_c => exact h_ldRegReg .l .c
  case ld_l_d => exact h_ldRegReg .l .d
  case ld_l_e => exact h_ldRegReg .l .e
  case ld_l_h => exact h_ldRegReg .l .h
  case ld_l_l => exact h_ldRegReg .l .l
  case ld_l_mhl => exact h_ldRegMhl .l
  case ld_l_a => exact h_ldRegReg .l .a
  case ld_mhl_b => exact h_ldMhlReg .b
  case ld_mhl_c => exact h_ldMhlReg .c
  case ld_mhl_d => exact h_ldMhlReg .d
  case ld_mhl_e => exact h_ldMhlReg .e
  case ld_mhl_h => exact h_ldMhlReg .h
  case ld_mhl_l => exact h_ldMhlReg .l
  case halt => exact h_halt
  case ld_mhl_a => exact h_ldMhlReg .a
  case ld_a_b => exact h_ldRegReg .a .b
  case ld_a_c => exact h_ldRegReg .a .c
  case ld_a_d => exact h_ldRegReg .a .d
  case ld_a_e => exact h_ldRegReg .a .e
  case ld_a_h => exact h_ldRegReg .a .h
  case ld_a_l => exact h_ldRegReg .a .l
  case ld_a_mhl => exact h_ldRegMhl .a
  case ld_a_a => exact h_ldRegReg .a .a
  case add_a_b => exact h_aluReg .add .b
  case add_a_c => exact h_aluReg .add .c
  case add_a_d => exact h_aluReg .add .d
  case add_a_e => exact h_aluReg .add .e
  case add_a_h => exact h_aluReg .add .h
  case add_a_l => exact h_aluReg .add .l
  case add_a_mhl => exact h_aluMhl .add
  case add_a_a => exact h_aluReg .add .a
  case adc_a_b => exact h_aluReg .adc .b
  case adc_a_c => exact h_aluReg .adc .c
  case adc_a_d => exact h_aluReg .adc .d
  case adc_a_e => exact h_aluReg .adc .e
  case adc_a_h => exact h_aluReg .adc .h
  case adc_a_l => exact h_aluReg .adc .l
  case adc_a_mhl => exact h_aluMhl .adc
  case adc_a_a => exact h_aluReg .adc .a
  case sub_b => exact h_aluReg .sub .b
  case sub_c => exact h_aluReg .sub .c
  case sub_d => exact h_aluReg .sub .d
  case sub_e => exact h_aluReg .sub .e
  case sub_h => exact h_aluReg .sub .h
  case sub_l => exact h_aluReg .sub .l
  case sub_mhl => exact h_aluMhl .sub
  case sub_a => exact h_aluReg .sub .a
  case sbc_a_b => exact h_aluReg .sbc .b
  case sbc_a_c => exact h_aluReg .sbc .c
  case sbc_a_d => exact h_aluReg .sbc .d
  case sbc_a_e => exact h_aluReg .sbc .e
  case sbc_a_h => exact h_aluReg .sbc .h
  case sbc_a_l => exact h_aluReg .sbc .l
  case sbc_a_mhl => exact h_aluMhl .sbc
  case sbc_a_a => exact h_aluReg .sbc .a
  case and_b => exact h_aluReg .and .b
  case and_c => exact h_aluReg .and .c
  case and_d => exact h_aluReg .and .d
  case and_e => exact h_aluReg .and .e
  case and_h => exact h_aluReg .and .h
  case and_l => exact h_aluReg .and .l
  case and_mhl => exact h_aluMhl .and
  case and_a => exact h_aluReg .and .a
  case xor_b => exact h_aluReg .xor .b
  case xor_c => exact h_aluReg .xor .c
  case xor_d => exact h_aluReg .xor .d
  case xor_e => exact h_aluReg .xor .e
  case xor_h => exact h_aluReg .xor .h
  case xor_l => exact h_aluReg .xor .l
  case xor_mhl => exact h_aluMhl .xor
  case xor_a => exact h_aluReg .xor .a
  case or_b => exact h_aluReg .or .b
  case or_c => exact h_aluReg .or .c
  case or_d => exact h_aluReg .or .d
  case or_e => exact h_aluReg .or .e
  case or_h => exact h_aluReg .or .h
  case or_l => exact h_aluReg .or .l
  case or_mhl => exact h_aluMhl .or
  case or_a => exact h_aluReg .or .a
  case cp_b => exact h_aluReg .cp .b
  case cp_c => exact h_aluReg .cp .c
  case cp_d => exact h_aluReg .cp .d
  case cp_e => exact h_aluReg .cp .e
  case cp_h => exact h_aluReg .cp .h
  case cp_l => exact h_aluReg .cp .l
  case cp_mhl => exact h_aluMhl .cp
  case cp_a => exact h_aluReg .cp .a
  case ret_nz => exact h_retCond .nz
  case pop_bc => exact h_pop .bc
  case push_bc => exact h_push .bc
  case rst_00h => exact h_rst .t00
  case ret_z => exact h_retCond .z
  case ret => exact h_ret
  case prefix_cb => exact h_prefix_cb
  case rst_08h => exact h_rst .t08
  case ret_nc => exact h_retCond .nc
  case pop_de => exact h_pop .de
  case push_de => exact h_push .de
  case rst_10h => exact h_rst .t10
  case ret_c => exact h_retCond .c
  case reti => exact h_reti
  case rst_18h => exact h_rst .t18
  case pop_hl => exact h_pop .hl
  case ldh_mc_a => exact h_ldh_mc_a
  case push_hl => exact h_push .hl
  case rst_20h => exact h_rst .t20
  case jp_hl => exact h_jp_hl
  case rst_28h => exact h_rst .t28
  case pop_af => exact h_pop .af
  case ldh_a_mc => exact h_ldh_a_mc
  case di => exact h_di
  case push_af => exact h_push .af
  case rst_30h => exact h_rst .t30
  case ld_sp_hl => exact h_ld_sp_hl
  case ei => exact h_ei
  case rst_38h => exact h_rst .t38
  case rlc_b => exact h_rot .rlc (.reg .b)
  case rlc_c => exact h_rot .rlc (.reg .c)
  case rlc_d => exact h_rot .rlc (.reg .d)
  case rlc_e => exact h_rot .rlc (.reg .e)
  case rlc_h => exact h_rot .rlc (.reg .h)
  case rlc_l => exact h_rot .rlc (.reg .l)
  case rlc_mhl => exact h_rot .rlc .mhl
  case rlc_a => exact h_rot .rlc (.reg .a)
  case rrc_b => exact h_rot .rrc (.reg .b)
  case rrc_c => exact h_rot .rrc (.reg .c)
  case rrc_d => exact h_rot .rrc (.reg .d)
  case rrc_e => exact h_rot .rrc (.reg .e)
  case rrc_h => exact h_rot .rrc (.reg .h)
  case rrc_l => exact h_rot .rrc (.reg .l)
  case rrc_mhl => exact h_rot .rrc .mhl
  case rrc_a => exact h_rot .rrc (.reg .a)
  case rl_b => exact h_rot .rl (.reg .b)
  case rl_c => exact h_rot .rl (.reg .c)
  case rl_d => exact h_rot .rl (.reg .d)
  case rl_e => exact h_rot .rl (.reg .e)
  case rl_h => exact h_rot .rl (.reg .h)
  case rl_l => exact h_rot .rl (.reg .l)
  case rl_mhl => exact h_rot .rl .mhl
  case rl_a => exact h_rot .rl (.reg .a)
  case rr_b => exact h_rot .rr (.reg .b)
  case rr_c => exact h_rot .rr (.reg .c)
  case rr_d => exact h_rot .rr (.reg .d)
  case rr_e => exact h_rot .rr (.reg .e)
  case rr_h => exact h_rot .rr (.reg .h)
  case rr_l => exact h_rot .rr (.reg .l)
  case rr_mhl => exact h_rot .rr .mhl
  case rr_a => exact h_rot .rr (.reg .a)
  case sla_b => exact h_rot .sla (.reg .b)
  case sla_c => exact h_rot .sla (.reg .c)
  case sla_d => exact h_rot .sla (.reg .d)
  case sla_e => exact h_rot .sla (.reg .e)
  case sla_h => exact h_rot .sla (.reg .h)
  case sla_l => exact h_rot .sla (.reg .l)
  case sla_mhl => exact h_rot .sla .mhl
  case sla_a => exact h_rot .sla (.reg .a)
  case sra_b => exact h_rot .sra (.reg .b)
  case sra_c => exact h_rot .sra (.reg .c)
  case sra_d => exact h_rot .sra (.reg .d)
  case sra_e => exact h_rot .sra (.reg .e)
  case sra_h => exact h_rot .sra (.reg .h)
  case sra_l => exact h_rot .sra (.reg .l)
  case sra_mhl => exact h_rot .sra .mhl
  case sra_a => exact h_rot .sra (.reg .a)
  case swap_b => exact h_rot .swap (.reg .b)
  case swap_c => exact h_rot .swap (.reg .c)
  case swap_d => exact h_rot .swap (.reg .d)
  case swap_e => exact h_rot .swap (.reg .e)
  case swap_h => exact h_rot .swap (.reg .h)
  case swap_l => exact h_rot .swap (.reg .l)
  case swap_mhl => exact h_rot .swap .mhl
  case swap_a => exact h_rot .swap (.reg .a)
  case srl_b => exact h_rot .srl (.reg .b)
  case srl_c => exact h_rot .srl (.reg .c)
  case srl_d => exact h_rot .srl (.reg .d)
  case srl_e => exact h_rot .srl (.reg .e)
  case srl_h => exact h_rot .srl (.reg .h)
  case srl_l => exact h_rot .srl (.reg .l)
  case srl_mhl => exact h_rot .srl .mhl
  case srl_a => exact h_rot .srl (.reg .a)
  case bit_0_b => exact h_bit .b0 (.reg .b)
  case bit_0_c => exact h_bit .b0 (.reg .c)
  case bit_0_d => exact h_bit .b0 (.reg .d)
  case bit_0_e => exact h_bit .b0 (.reg .e)
  case bit_0_h => exact h_bit .b0 (.reg .h)
  case bit_0_l => exact h_bit .b0 (.reg .l)
  case bit_0_mhl => exact h_bit .b0 .mhl
  case bit_0_a => exact h_bit .b0 (.reg .a)
  case bit_1_b => exact h_bit .b1 (.reg .b)
  case bit_1_c => exact h_bit .b1 (.reg .c)
  case bit_1_d => exact h_bit .b1 (.reg .d)
  case bit_1_e => exact h_bit .b1 (.reg .e)
  case bit_1_h => exact h_bit .b1 (.reg .h)
  case bit_1_l => exact h_bit .b1 (.reg .l)
  case bit_1_mhl => exact h_bit .b1 .mhl
  case bit_1_a => exact h_bit .b1 (.reg .a)
  case bit_2_b => exact h_bit .b2 (.reg .b)
  case bit_2_c => exact h_bit .b2 (.reg .c)
  case bit_2_d => exact h_bit .b2 (.reg .d)
  case bit_2_e => exact h_bit .b2 (.reg .e)
  case bit_2_h => exact h_bit .b2 (.reg .h)
  case bit_2_l => exact h_bit .b2 (.reg .l)
  case bit_2_mhl => exact h_bit .b2 .mhl
  case bit_2_a => exact h_bit .b2 (.reg .a)
  case bit_3_b => exact h_bit .b3 (.reg .b)
  case bit_3_c => exact h_bit .b3 (.reg .c)
  case bit_3_d => exact h_bit .b3 (.reg .d)
  case bit_3_e => exact h_bit .b3 (.reg .e)
  case bit_3_h => exact h_bit .b3 (.reg .h)
  case bit_3_l => exact h_bit .b3 (.reg .l)
  case bit_3_mhl => exact h_bit .b3 .mhl
  case bit_3_a => exact h_bit .b3 (.reg .a)
  case bit_4_b => exact h_bit .b4 (.reg .b)
  case bit_4_c => exact h_bit .b4 (.reg .c)
  case bit_4_d => exact h_bit .b4 (.reg .d)
  case bit_4_e => exact h_bit .b4 (.reg .e)
  case bit_4_h => exact h_bit .b4 (.reg .h)
  case bit_4_l => exact h_bit .b4 (.reg .l)
  case bit_4_mhl => exact h_bit .b4 .mhl
  case bit_4_a => exact h_bit .b4 (.reg .a)
  case bit_5_b => exact h_bit .b5 (.reg .b)
  case bit_5_c => exact h_bit .b5 (.reg .c)
  case bit_5_d => exact h_bit .b5 (.reg .d)
  case bit_5_e => exact h_bit .b5 (.reg .e)
  case bit_5_h => exact h_bit .b5 (.reg .h)
  case bit_5_l => exact h_bit .b5 (.reg .l)
  case bit_5_mhl => exact h_bit .b5 .mhl
  case bit_5_a => exact h_bit .b5 (.reg .a)
  case bit_6_b => exact h_bit .b6 (.reg .b)
  case bit_6_c => exact h_bit .b6 (.reg .c)
  case bit_6_d => exact h_bit .b6 (.reg .d)
  case bit_6_e => exact h_bit .b6 (.reg .e)
  case bit_6_h => exact h_bit .b6 (.reg .h)
  case bit_6_l => exact h_bit .b6 (.reg .l)
  case bit_6_mhl => exact h_bit .b6 .mhl
  case bit_6_a => exact h_bit .b6 (.reg .a)
  case bit_7_b => exact h_bit .b7 (.reg .b)
  case bit_7_c => exact h_bit .b7 (.reg .c)
  case bit_7_d => exact h_bit .b7 (.reg .d)
  case bit_7_e => exact h_bit .b7 (.reg .e)
  case bit_7_h => exact h_bit .b7 (.reg .h)
  case bit_7_l => exact h_bit .b7 (.reg .l)
  case bit_7_mhl => exact h_bit .b7 .mhl
  case bit_7_a => exact h_bit .b7 (.reg .a)
  case res_0_b => exact h_res .b0 (.reg .b)
  case res_0_c => exact h_res .b0 (.reg .c)
  case res_0_d => exact h_res .b0 (.reg .d)
  case res_0_e => exact h_res .b0 (.reg .e)
  case res_0_h => exact h_res .b0 (.reg .h)
  case res_0_l => exact h_res .b0 (.reg .l)
  case res_0_mhl => exact h_res .b0 .mhl
  case res_0_a => exact h_res .b0 (.reg .a)
  case res_1_b => exact h_res .b1 (.reg .b)
  case res_1_c => exact h_res .b1 (.reg .c)
  case res_1_d => exact h_res .b1 (.reg .d)
  case res_1_e => exact h_res .b1 (.reg .e)
  case res_1_h => exact h_res .b1 (.reg .h)
  case res_1_l => exact h_res .b1 (.reg .l)
  case res_1_mhl => exact h_res .b1 .mhl
  case res_1_a => exact h_res .b1 (.reg .a)
  case res_2_b => exact h_res .b2 (.reg .b)
  case res_2_c => exact h_res .b2 (.reg .c)
  case res_2_d => exact h_res .b2 (.reg .d)
  case res_2_e => exact h_res .b2 (.reg .e)
  case res_2_h => exact h_res .b2 (.reg .h)
  case res_2_l => exact h_res .b2 (.reg .l)
  case res_2_mhl => exact h_res .b2 .mhl
  case res_2_a => exact h_res .b2 (.reg .a)
  case res_3_b => exact h_res .b3 (.reg .b)
  case res_3_c => exact h_res .b3 (.reg .c)
  case res_3_d => exact h_res .b3 (.reg .d)
  case res_3_e => exact h_res .b3 (.reg .e)
  case res_3_h => exact h_res .b3 (.reg .h)
  case res_3_l => exact h_res .b3 (.reg .l)
  case res_3_mhl => exact h_res .b3 .mhl
  case res_3_a => exact h_res .b3 (.reg .a)
  case res_4_b => exact h_res .b4 (.reg .b)
  case res_4_c => exact h_res .b4 (.reg .c)
  case res_4_d => exact h_res .b4 (.reg .d)
  case res_4_e => exact h_res .b4 (.reg .e)
  case res_4_h => exact h_res .b4 (.reg .h)
  case res_4_l => exact h_res .b4 (.reg .l)
  case res_4_mhl => exact h_res .b4 .mhl
  case res_4_a => exact h_res .b4 (.reg .a)
  case res_5_b => exact h_res .b5 (.reg .b)
  case res_5_c => exact h_res .b5 (.reg .c)
  case res_5_d => exact h_res .b5 (.reg .d)
  case res_5_e => exact h_res .b5 (.reg .e)
  case res_5_h => exact h_res .b5 (.reg .h)
  case res_5_l => exact h_res .b5 (.reg .l)
  case res_5_mhl => exact h_res .b5 .mhl
  case res_5_a => exact h_res .b5 (.reg .a)
  case res_6_b => exact h_res .b6 (.reg .b)
  case res_6_c => exact h_res .b6 (.reg .c)
  case res_6_d => exact h_res .b6 (.reg .d)
  case res_6_e => exact h_res .b6 (.reg .e)
  case res_6_h => exact h_res .b6 (.reg .h)
  case res_6_l => exact h_res .b6 (.reg .l)
  case res_6_mhl => exact h_res .b6 .mhl
  case res_6_a => exact h_res .b6 (.reg .a)
  case res_7_b => exact h_res .b7 (.reg .b)
  case res_7_c => exact h_res .b7 (.reg .c)
  case res_7_d => exact h_res .b7 (.reg .d)
  case res_7_e => exact h_res .b7 (.reg .e)
  case res_7_h => exact h_res .b7 (.reg .h)
  case res_7_l => exact h_res .b7 (.reg .l)
  case res_7_mhl => exact h_res .b7 .mhl
  case res_7_a => exact h_res .b7 (.reg .a)
  case set_0_b => exact h_set .b0 (.reg .b)
  case set_0_c => exact h_set .b0 (.reg .c)
  case set_0_d => exact h_set .b0 (.reg .d)
  case set_0_e => exact h_set .b0 (.reg .e)
  case set_0_h => exact h_set .b0 (.reg .h)
  case set_0_l => exact h_set .b0 (.reg .l)
  case set_0_mhl => exact h_set .b0 .mhl
  case set_0_a => exact h_set .b0 (.reg .a)
  case set_1_b => exact h_set .b1 (.reg .b)
  case set_1_c => exact h_set .b1 (.reg .c)
  case set_1_d => exact h_set .b1 (.reg .d)
  case set_1_e => exact h_set .b1 (.reg .e)
  case set_1_h => exact h_set .b1 (.reg .h)
  case set_1_l => exact h_set .b1 (.reg .l)
  case set_1_mhl => exact h_set .b1 .mhl
  case set_1_a => exact h_set .b1 (.reg .a)
  case set_2_b => exact h_set .b2 (.reg .b)
  case set_2_c => exact h_set .b2 (.reg .c)
  case set_2_d => exact h_set .b2 (.reg .d)
  case set_2_e => exact h_set .b2 (.reg .e)
  case set_2_h => exact h_set .b2 (.reg .h)
  case set_2_l => exact h_set .b2 (.reg .l)
  case set_2_mhl => exact h_set .b2 .mhl
  case set_2_a => exact h_set .b2 (.reg .a)
  case set_3_b => exact h_set .b3 (.reg .b)
  case set_3_c => exact h_set .b3 (.reg .c)
  case set_3_d => exact h_set .b3 (.reg .d)
  case set_3_e => exact h_set .b3 (.reg .e)
  case set_3_h => exact h_set .b3 (.reg .h)
  case set_3_l => exact h_set .b3 (.reg .l)
  case set_3_mhl => exact h_set .b3 .mhl
  case set_3_a => exact h_set .b3 (.reg .a)
  case set_4_b => exact h_set .b4 (.reg .b)
  case set_4_c => exact h_set .b4 (.reg .c)
  case set_4_d => exact h_set .b4 (.reg .d)
  case set_4_e => exact h_set .b4 (.reg .e)
  case set_4_h => exact h_set .b4 (.reg .h)
  case set_4_l => exact h_set .b4 (.reg .l)
  case set_4_mhl => exact h_set .b4 .mhl
  case set_4_a => exact h_set .b4 (.reg .a)
  case set_5_b => exact h_set .b5 (.reg .b)
  case set_5_c => exact h_set .b5 (.reg .c)
  case set_5_d => exact h_set .b5 (.reg .d)
  case set_5_e => exact h_set .b5 (.reg .e)
  case set_5_h => exact h_set .b5 (.reg .h)
  case set_5_l => exact h_set .b5 (.reg .l)
  case set_5_mhl => exact h_set .b5 .mhl
  case set_5_a => exact h_set .b5 (.reg .a)
  case set_6_b => exact h_set .b6 (.reg .b)
  case set_6_c => exact h_set .b6 (.reg .c)
  case set_6_d => exact h_set .b6 (.reg .d)
  case set_6_e => exact h_set .b6 (.reg .e)
  case set_6_h => exact h_set .b6 (.reg .h)
  case set_6_l => exact h_set .b6 (.reg .l)
  case set_6_mhl => exact h_set .b6 .mhl
  case set_6_a => exact h_set .b6 (.reg .a)
  case set_7_b => exact h_set .b7 (.reg .b)
  case set_7_c => exact h_set .b7 (.reg .c)
  case set_7_d => exact h_set .b7 (.reg .d)
  case set_7_e => exact h_set .b7 (.reg .e)
  case set_7_h => exact h_set .b7 (.reg .h)
  case set_7_l => exact h_set .b7 (.reg .l)
  case set_7_mhl => exact h_set .b7 .mhl
  case set_7_a => exact h_set .b7 (.reg .a)

end Sys2Proof
end

