-- ==== Sys2Proof/Laws/Exec.lean ====
section
/-! SUPPORT. What `exec` is on each register-indexed family of the table, in terms of the shared operation: the case split over the
family's constructors is made here once. -/

namespace Sys2Proof.Machine

/-- `LD r,r'` (40_load8.md R110). -/
theorem exec_ldRegReg (x : Reg8) (y : Reg8) (s : State) :
    exec (Form.ldRegReg x y) s = .next (loadRegReg x y s) := by cases x <;> cases y <;> rfl

/-- `LD r,n` (R111). -/
theorem exec_ldRegImm (x : Reg8) (n : Byte) (s : State) :
    exec (Form.ldRegImm x n) s = .next (loadRegImm x n s) := by cases x <;> rfl

/-- `LD r,(HL)` (R112). -/
theorem exec_ldRegMhl (x : Reg8) (s : State) :
    exec (Form.ldRegMhl x) s = .next (loadRegMem x s.hl 8 s) := by cases x <;> rfl

/-- `LD (HL),r` (R113). -/
theorem exec_ldMhlReg (x : Reg8) (s : State) :
    exec (Form.ldMhlReg x) s = .next (storeMem s.hl (s.reg x) 8 s) := by cases x <;> rfl

/-- `LD rr,nn` (41_load16_stack.md R140). -/
theorem exec_ldPairImm (x : Pair16) (nn : Word) (s : State) :
    exec (Form.ldPairImm x nn) s = .next (loadPairImm x nn s) := by cases x <;> rfl

/-- `PUSH qq` (R144). -/
theorem exec_push (x : StackPair) (s : State) :
    exec (Form.push x) s = .next (pushPair x s) := by cases x <;> rfl

/-- `POP qq` (R145). -/
theorem exec_pop (x : StackPair) (s : State) :
    exec (Form.pop x) s = .next (popPair x s) := by cases x <;> rfl

/-- An accumulator operation on a register (42_alu8.md R150). -/
theorem exec_aluReg (x : AluOp) (y : Reg8) (s : State) :
    exec (Form.aluReg x y) s = .next (aluApply x (s.reg y) 4 s) := by cases x <;> cases y <;> rfl

/-- An accumulator operation on the byte at HL (R150). -/
theorem exec_aluMhl (x : AluOp) (s : State) :
    exec (Form.aluMhl x) s = .next (aluApply x (readByte s s.hl) 8 s.countRead) := by cases x <;> rfl

/-- An accumulator operation on an immediate (R150). -/
theorem exec_aluImm (x : AluOp) (n : Byte) (s : State) :
    exec (Form.aluImm x n) s = .next (aluApply x n 8 s) := by cases x <;> rfl

/-- `INC r` (R159). -/
theorem exec_incReg (x : Reg8) (s : State) :
    exec (Form.incReg x) s = .next (stepReg x (incOut (s.reg x) s.fC) s) := by cases x <;> rfl

/-- `DEC r` (R161). -/
theorem exec_decReg (x : Reg8) (s : State) :
    exec (Form.decReg x) s = .next (stepReg x (decOut (s.reg x) s.fC) s) := by cases x <;> rfl

/-- `ADD HL,rr` (43_alu16.md R180). -/
theorem exec_addHlPair (x : Pair16) (s : State) :
    exec (Form.addHlPair x) s = .next (addHl x s) := by cases x <;> rfl

/-- `INC rr` (R181). -/
theorem exec_incPair (x : Pair16) (s : State) :
    exec (Form.incPair x) s = .next (movePair x 1 s) := by cases x <;> rfl

/-- `DEC rr` (R182). -/
theorem exec_decPair (x : Pair16) (s : State) :
    exec (Form.decPair x) s = .next (movePair x (-1) s) := by cases x <;> rfl

/-- The accumulator rotates (44_rotate_shift_bit.md R190 to R193). -/
theorem exec_accRot (x : AccRotOp) (s : State) :
    exec (Form.accRot x) s = .next (rotateA x s) := by cases x <;> rfl

/-- A CB-table rotate, shift or SWAP (R195 to R202). -/
theorem exec_rot (x : RotOp) (y : Operand8) (s : State) :
    exec (Form.rot x y) s = .next (rotateOperand x y s) := by cases x <;> rcases y with y | _ <;> first | rfl | (cases y <;> rfl)

/-- `BIT b,s` (R203). -/
theorem exec_bit (x : BitIndex) (y : Operand8) (s : State) :
    exec (Form.bit x y) s = .next (testBit x y s) := by cases x <;> rcases y with y | _ <;> first | rfl | (cases y <;> rfl)

/-- `RES b,s` (R204). -/
theorem exec_res (x : BitIndex) (y : Operand8) (s : State) :
    exec (Form.res x y) s = .next (resetBit x y s) := by cases x <;> rcases y with y | _ <;> first | rfl | (cases y <;> rfl)

/-- `SET b,s` (R205). -/
theorem exec_set (x : BitIndex) (y : Operand8) (s : State) :
    exec (Form.set x y) s = .next (setBit x y s) := by cases x <;> rcases y with y | _ <;> first | rfl | (cases y <;> rfl)

/-- `JP cc,nn` (45_control.md R222). -/
theorem exec_jpCond (x : Cond) (nn : Word) (s : State) :
    exec (Form.jpCond x nn) s = .next (jumpIf x nn 16 12 s) := by cases x <;> rfl

/-- `JR cc,e` (R225). -/
theorem exec_jrCond (x : Cond) (e : Byte) (s : State) :
    exec (Form.jrCond x e) s = .next (jumpIf x (relTarget e s) 12 8 s) := by cases x <;> rfl

/-- `CALL cc,nn` (R227). -/
theorem exec_callCond (x : Cond) (nn : Word) (s : State) :
    exec (Form.callCond x nn) s = .next (callIf x nn s) := by cases x <;> rfl

/-- `RET cc` (R229). -/
theorem exec_retCond (x : Cond) (s : State) :
    exec (Form.retCond x) s = .next (returnIf x s) := by cases x <;> rfl

/-- `RST t` (R231). -/
theorem exec_rst (x : RstIndex) (s : State) :
    exec (Form.rst x) s = .next (callTo (rstTarget x) 16 s) := by cases x <;> rfl

end Sys2Proof.Machine
end

