-- ==== Sys2Proof/Laws/Inv.lean ====
section
/-! SUPPORT. Every shared operation of the CPU keeps the invariant: the updates of its own state, the operand writes, the fetch, the
stack, the CB table (10_state.md R10 to R21; 60_exceptions.md R260). -/

namespace Sys2Proof.Machine

theorem setReg_inv (r : Reg8) (v : Byte) (s : State) (h : s.Inv) : (s.setReg r v).Inv := by cases r <;> exact { h with }

theorem setPair_inv (p : Pair16) (v : Word) (s : State) (h : s.Inv) : (s.setPair p v).Inv := by
  cases p <;> exact { h with }

theorem setStackPair_inv (p : StackPair) (v : Word) (s : State) (h : s.Inv) : (s.setStackPair p v).Inv := by
  cases p <;> exact { h with }

theorem setHl_inv (v : Word) (s : State) (h : s.Inv) : (s.setHl v).Inv := { h with }

theorem setPc_inv (v : Word) (s : State) (h : s.Inv) : (s.setPc v).Inv := { h with }

theorem setFlags_inv (z n hc c : Bool) (s : State) (h : s.Inv) : (s.setFlags z n hc c).Inv := { h with }

theorem setAluFlags_inv (o : AluOut) (s : State) (h : s.Inv) : (s.setAluFlags o).Inv := { h with }

theorem took_inv (n : Nat) (s : State) (h : s.Inv) : (s.took n).Inv := { h with }

theorem countRead_inv (s : State) (h : s.Inv) : s.countRead.Inv := { h with }

theorem popped_inv (s : State) (h : s.Inv) : (popped s).Inv := { h with }

theorem operandRead_inv (x : Operand8) (s : State) (h : s.Inv) : (operandRead x s).Inv := by cases x <;> exact { h with }

theorem operandWrite_inv (x : Operand8) (v : Byte) (s : State) (h : s.Inv) : (operandWrite x v s).Inv := by
  cases x with
  | reg r => exact setReg_inv r v s h
  | mhl => exact writeByte_inv s.hl v s h

theorem cbEntry_inv (op2 : Byte) (s : State) (h : s.Inv) : (cbEntry op2 s).Inv := by
  unfold cbEntry
  dsimp only
  split
  · exact took_inv _ _ (setAluFlags_inv _ _ (operandWrite_inv _ _ _ (operandRead_inv _ _ h)))
  · exact took_inv _ _ (setFlags_inv _ _ _ _ _ (operandRead_inv _ _ h))
  · exact took_inv _ _ (operandWrite_inv _ _ _ (operandRead_inv _ _ h))
  · exact took_inv _ _ (operandWrite_inv _ _ _ (operandRead_inv _ _ h))

theorem afterFetch_inv (s : State) (h : s.Inv) : (afterFetch s).Inv := { h with }

theorem afterOpcode_inv (op : Byte) (s : State) (h : s.Inv) : (afterOpcode op s).Inv := by
  unfold afterOpcode
  split
  · exact { h with haltBug := by intro hb; cases hb }
  · exact afterFetch_inv s h

theorem fetch_inv (s : State) (h : s.Inv) : (fetch s).2.Inv := by
  unfold fetch
  dsimp only
  split
  · exact afterOpcode_inv _ s h
  · exact afterFetch_inv _ (afterOpcode_inv _ s h)
  · exact afterFetch_inv _ (afterFetch_inv _ (afterOpcode_inv _ s h))

theorem dispatchInterrupt_inv (k : Nat) (s : State) (h : s.Inv) : (dispatchInterrupt k s).Inv :=
  took_inv _ _ (setPc_inv _ _ (push16_inv _ _ { h with }))

theorem afterCpu_inv (s : State) (h : s.Inv) : (afterCpu s).Inv := by
  unfold afterCpu
  split
  · exact h
  · exact serialMove_inv _ (advancePeripherals_inv _ _ h)

end Sys2Proof.Machine
end

