-- ==== Sys2Proof/Laws/Words.lean ====
section
/-! SUPPORT. Words and their bytes, for the encoding claims (00_scope.md R7). -/

namespace Sys2Proof

theorem word_toNat (x y : Byte) : (word x y).toNat = x.toNat * 256 + y.toNat := by
  have := x.isLt; have := y.isLt
  simp only [word, BitVec.toNat_ofNat]; omega

/-- The bits of the low byte of a word. -/
theorem word_getLsbD_low (x y : Byte) (k : Nat) (h : k < 8) : (word x y).getLsbD k = y.getLsbD k := by
  have hy : y = BitVec.ofNat 8 (word x y).toNat := by
    have := x.isLt; have := y.isLt
    apply BitVec.eq_of_toNat_eq
    simp only [BitVec.toNat_ofNat, word_toNat]; omega
  rw [hy, BitVec.getLsbD_ofNat, BitVec.getLsbD]
  simp [h, ← hy]

/-- The two bytes of a word make the word. -/
@[simp] theorem word_hi_lo (v : Word) : word (hiByte v) (loByte v) = v := by
  have := v.isLt
  apply BitVec.eq_of_toNat_eq
  simp only [word_toNat, hiByte, loByte, BitVec.toNat_ofNat]; omega

@[simp] theorem hiByte_word (x y : Byte) : hiByte (word x y) = x := by
  have := x.isLt; have := y.isLt
  apply BitVec.eq_of_toNat_eq
  simp only [hiByte, BitVec.toNat_ofNat, word_toNat]; omega

@[simp] theorem loByte_word (x y : Byte) : loByte (word x y) = y := by
  have := x.isLt; have := y.isLt
  apply BitVec.eq_of_toNat_eq
  simp only [loByte, BitVec.toNat_ofNat, word_toNat]; omega

end Sys2Proof
end

