-- ==== Sys2Proof/Laws/PerInstr.lean ====
section
/-! SUPPORT. The round trip of the encoding, one lemma per constructor of `Instr` (30_encoding.md R90 to R104). -/

namespace Sys2Proof.Laws

/-- Decoding the encoding of a well-formed instruction gives it back, whatever follows it. -/
def RoundTrip.Statement (i : Instr) : Prop :=
  WellFormed i = true → ∀ rest : List Byte, decode (encode i ++ rest) = .ok i rest

theorem RoundTrip.ld_bc_nn (nn : Word) : RoundTrip.Statement (.ld_bc_nn nn) := fun _ rest =>
  congrArg (Decoded.ok · rest) (congrArg Instr.ld_bc_nn (word_hi_lo nn))
theorem RoundTrip.ld_b_n (n : Byte) : RoundTrip.Statement (.ld_b_n n) := fun _ _ => rfl
theorem RoundTrip.ld_mnn_sp (nn : Word) : RoundTrip.Statement (.ld_mnn_sp nn) := fun _ rest =>
  congrArg (Decoded.ok · rest) (congrArg Instr.ld_mnn_sp (word_hi_lo nn))
theorem RoundTrip.ld_c_n (n : Byte) : RoundTrip.Statement (.ld_c_n n) := fun _ _ => rfl
theorem RoundTrip.stop (n : Byte) : RoundTrip.Statement (.stop n) := fun _ _ => rfl
theorem RoundTrip.ld_de_nn (nn : Word) : RoundTrip.Statement (.ld_de_nn nn) := fun _ rest =>
  congrArg (Decoded.ok · rest) (congrArg Instr.ld_de_nn (word_hi_lo nn))
theorem RoundTrip.ld_d_n (n : Byte) : RoundTrip.Statement (.ld_d_n n) := fun _ _ => rfl
theorem RoundTrip.jr_e (e : Byte) : RoundTrip.Statement (.jr_e e) := fun _ _ => rfl
theorem RoundTrip.ld_e_n (n : Byte) : RoundTrip.Statement (.ld_e_n n) := fun _ _ => rfl
theorem RoundTrip.jr_nz_e (e : Byte) : RoundTrip.Statement (.jr_nz_e e) := fun _ _ => rfl
theorem RoundTrip.ld_hl_nn (nn : Word) : RoundTrip.Statement (.ld_hl_nn nn) := fun _ rest =>
  congrArg (Decoded.ok · rest) (congrArg Instr.ld_hl_nn (word_hi_lo nn))
theorem RoundTrip.ld_h_n (n : Byte) : RoundTrip.Statement (.ld_h_n n) := fun _ _ => rfl
theorem RoundTrip.jr_z_e (e : Byte) : RoundTrip.Statement (.jr_z_e e) := fun _ _ => rfl
theorem RoundTrip.ld_l_n (n : Byte) : RoundTrip.Statement (.ld_l_n n) := fun _ _ => rfl
theorem RoundTrip.jr_nc_e (e : Byte) : RoundTrip.Statement (.jr_nc_e e) := fun _ _ => rfl
theorem RoundTrip.ld_sp_nn (nn : Word) : RoundTrip.Statement (.ld_sp_nn nn) := fun _ rest =>
  congrArg (Decoded.ok · rest) (congrArg Instr.ld_sp_nn (word_hi_lo nn))
theorem RoundTrip.ld_mhl_n (n : Byte) : RoundTrip.Statement (.ld_mhl_n n) := fun _ _ => rfl
theorem RoundTrip.jr_c_e (e : Byte) : RoundTrip.Statement (.jr_c_e e) := fun _ _ => rfl
theorem RoundTrip.ld_a_n (n : Byte) : RoundTrip.Statement (.ld_a_n n) := fun _ _ => rfl
theorem RoundTrip.jp_nz_nn (nn : Word) : RoundTrip.Statement (.jp_nz_nn nn) := fun _ rest =>
  congrArg (Decoded.ok · rest) (congrArg Instr.jp_nz_nn (word_hi_lo nn))
theorem RoundTrip.jp_nn (nn : Word) : RoundTrip.Statement (.jp_nn nn) := fun _ rest =>
  congrArg (Decoded.ok · rest) (congrArg Instr.jp_nn (word_hi_lo nn))
theorem RoundTrip.call_nz_nn (nn : Word) : RoundTrip.Statement (.call_nz_nn nn) := fun _ rest =>
  congrArg (Decoded.ok · rest) (congrArg Instr.call_nz_nn (word_hi_lo nn))
theorem RoundTrip.add_a_n (n : Byte) : RoundTrip.Statement (.add_a_n n) := fun _ _ => rfl
theorem RoundTrip.jp_z_nn (nn : Word) : RoundTrip.Statement (.jp_z_nn nn) := fun _ rest =>
  congrArg (Decoded.ok · rest) (congrArg Instr.jp_z_nn (word_hi_lo nn))
theorem RoundTrip.call_z_nn (nn : Word) : RoundTrip.Statement (.call_z_nn nn) := fun _ rest =>
  congrArg (Decoded.ok · rest) (congrArg Instr.call_z_nn (word_hi_lo nn))
theorem RoundTrip.call_nn (nn : Word) : RoundTrip.Statement (.call_nn nn) := fun _ rest =>
  congrArg (Decoded.ok · rest) (congrArg Instr.call_nn (word_hi_lo nn))
theorem RoundTrip.adc_a_n (n : Byte) : RoundTrip.Statement (.adc_a_n n) := fun _ _ => rfl
theorem RoundTrip.jp_nc_nn (nn : Word) : RoundTrip.Statement (.jp_nc_nn nn) := fun _ rest =>
  congrArg (Decoded.ok · rest) (congrArg Instr.jp_nc_nn (word_hi_lo nn))
theorem RoundTrip.unmapped (op : Byte) : RoundTrip.Statement (.unmapped op) := by
  intro h rest
  simp only [WellFormed, unmappedOpcodes, List.contains_eq_mem, List.mem_cons, List.not_mem_nil, or_false,
    decide_eq_true_eq] at h
  rcases h with h | h | h | h | h | h | h | h | h | h | h <;> subst h <;> rfl
theorem RoundTrip.call_nc_nn (nn : Word) : RoundTrip.Statement (.call_nc_nn nn) := fun _ rest =>
  congrArg (Decoded.ok · rest) (congrArg Instr.call_nc_nn (word_hi_lo nn))
theorem RoundTrip.sub_n (n : Byte) : RoundTrip.Statement (.sub_n n) := fun _ _ => rfl
theorem RoundTrip.jp_c_nn (nn : Word) : RoundTrip.Statement (.jp_c_nn nn) := fun _ rest =>
  congrArg (Decoded.ok · rest) (congrArg Instr.jp_c_nn (word_hi_lo nn))
theorem RoundTrip.call_c_nn (nn : Word) : RoundTrip.Statement (.call_c_nn nn) := fun _ rest =>
  congrArg (Decoded.ok · rest) (congrArg Instr.call_c_nn (word_hi_lo nn))
theorem RoundTrip.sbc_a_n (n : Byte) : RoundTrip.Statement (.sbc_a_n n) := fun _ _ => rfl
theorem RoundTrip.ldh_mn_a (n : Byte) : RoundTrip.Statement (.ldh_mn_a n) := fun _ _ => rfl
theorem RoundTrip.and_n (n : Byte) : RoundTrip.Statement (.and_n n) := fun _ _ => rfl
theorem RoundTrip.add_sp_e (e : Byte) : RoundTrip.Statement (.add_sp_e e) := fun _ _ => rfl
theorem RoundTrip.ld_mnn_a (nn : Word) : RoundTrip.Statement (.ld_mnn_a nn) := fun _ rest =>
  congrArg (Decoded.ok · rest) (congrArg Instr.ld_mnn_a (word_hi_lo nn))
theorem RoundTrip.xor_n (n : Byte) : RoundTrip.Statement (.xor_n n) := fun _ _ => rfl
theorem RoundTrip.ldh_a_mn (n : Byte) : RoundTrip.Statement (.ldh_a_mn n) := fun _ _ => rfl
theorem RoundTrip.or_n (n : Byte) : RoundTrip.Statement (.or_n n) := fun _ _ => rfl
theorem RoundTrip.ld_hl_sp_e (e : Byte) : RoundTrip.Statement (.ld_hl_sp_e e) := fun _ _ => rfl
theorem RoundTrip.ld_a_mnn (nn : Word) : RoundTrip.Statement (.ld_a_mnn nn) := fun _ rest =>
  congrArg (Decoded.ok · rest) (congrArg Instr.ld_a_mnn (word_hi_lo nn))
theorem RoundTrip.cp_n (n : Byte) : RoundTrip.Statement (.cp_n n) := fun _ _ => rfl
theorem RoundTrip.nop : RoundTrip.Statement .nop := fun _ _ => rfl
theorem RoundTrip.ld_mbc_a : RoundTrip.Statement .ld_mbc_a := fun _ _ => rfl
theorem RoundTrip.inc_bc : RoundTrip.Statement .inc_bc := fun _ _ => rfl
theorem RoundTrip.inc_b : RoundTrip.Statement .inc_b := fun _ _ => rfl
theorem RoundTrip.dec_b : RoundTrip.Statement .dec_b := fun _ _ => rfl
theorem RoundTrip.rlca : RoundTrip.Statement .rlca := fun _ _ => rfl
theorem RoundTrip.add_hl_bc : RoundTrip.Statement .add_hl_bc := fun _ _ => rfl
theorem RoundTrip.ld_a_mbc : RoundTrip.Statement .ld_a_mbc := fun _ _ => rfl
theorem RoundTrip.dec_bc : RoundTrip.Statement .dec_bc := fun _ _ => rfl
theorem RoundTrip.inc_c : RoundTrip.Statement .inc_c := fun _ _ => rfl
theorem RoundTrip.dec_c : RoundTrip.Statement .dec_c := fun _ _ => rfl
theorem RoundTrip.rrca : RoundTrip.Statement .rrca := fun _ _ => rfl
theorem RoundTrip.ld_mde_a : RoundTrip.Statement .ld_mde_a := fun _ _ => rfl
theorem RoundTrip.inc_de : RoundTrip.Statement .inc_de := fun _ _ => rfl
theorem RoundTrip.inc_d : RoundTrip.Statement .inc_d := fun _ _ => rfl
theorem RoundTrip.dec_d : RoundTrip.Statement .dec_d := fun _ _ => rfl
theorem RoundTrip.rla : RoundTrip.Statement .rla := fun _ _ => rfl
theorem RoundTrip.add_hl_de : RoundTrip.Statement .add_hl_de := fun _ _ => rfl
theorem RoundTrip.ld_a_mde : RoundTrip.Statement .ld_a_mde := fun _ _ => rfl
theorem RoundTrip.dec_de : RoundTrip.Statement .dec_de := fun _ _ => rfl
theorem RoundTrip.inc_e : RoundTrip.Statement .inc_e := fun _ _ => rfl
theorem RoundTrip.dec_e : RoundTrip.Statement .dec_e := fun _ _ => rfl
theorem RoundTrip.rra : RoundTrip.Statement .rra := fun _ _ => rfl
theorem RoundTrip.ld_mhli_a : RoundTrip.Statement .ld_mhli_a := fun _ _ => rfl
theorem RoundTrip.inc_hl : RoundTrip.Statement .inc_hl := fun _ _ => rfl
theorem RoundTrip.inc_h : RoundTrip.Statement .inc_h := fun _ _ => rfl
theorem RoundTrip.dec_h : RoundTrip.Statement .dec_h := fun _ _ => rfl
theorem RoundTrip.daa : RoundTrip.Statement .daa := fun _ _ => rfl
theorem RoundTrip.add_hl_hl : RoundTrip.Statement .add_hl_hl := fun _ _ => rfl
theorem RoundTrip.ld_a_mhli : RoundTrip.Statement .ld_a_mhli := fun _ _ => rfl
theorem RoundTrip.dec_hl : RoundTrip.Statement .dec_hl := fun _ _ => rfl
theorem RoundTrip.inc_l : RoundTrip.Statement .inc_l := fun _ _ => rfl
theorem RoundTrip.dec_l : RoundTrip.Statement .dec_l := fun _ _ => rfl
theorem RoundTrip.cpl : RoundTrip.Statement .cpl := fun _ _ => rfl
theorem RoundTrip.ld_mhld_a : RoundTrip.Statement .ld_mhld_a := fun _ _ => rfl
theorem RoundTrip.inc_sp : RoundTrip.Statement .inc_sp := fun _ _ => rfl
theorem RoundTrip.inc_mhl : RoundTrip.Statement .inc_mhl := fun _ _ => rfl
theorem RoundTrip.dec_mhl : RoundTrip.Statement .dec_mhl := fun _ _ => rfl
theorem RoundTrip.scf : RoundTrip.Statement .scf := fun _ _ => rfl
theorem RoundTrip.add_hl_sp : RoundTrip.Statement .add_hl_sp := fun _ _ => rfl
theorem RoundTrip.ld_a_mhld : RoundTrip.Statement .ld_a_mhld := fun _ _ => rfl
theorem RoundTrip.dec_sp : RoundTrip.Statement .dec_sp := fun _ _ => rfl
theorem RoundTrip.inc_a : RoundTrip.Statement .inc_a := fun _ _ => rfl
theorem RoundTrip.dec_a : RoundTrip.Statement .dec_a := fun _ _ => rfl
theorem RoundTrip.ccf : RoundTrip.Statement .ccf := fun _ _ => rfl
theorem RoundTrip.ld_b_b : RoundTrip.Statement .ld_b_b := fun _ _ => rfl
theorem RoundTrip.ld_b_c : RoundTrip.Statement .ld_b_c := fun _ _ => rfl
theorem RoundTrip.ld_b_d : RoundTrip.Statement .ld_b_d := fun _ _ => rfl
theorem RoundTrip.ld_b_e : RoundTrip.Statement .ld_b_e := fun _ _ => rfl
theorem RoundTrip.ld_b_h : RoundTrip.Statement .ld_b_h := fun _ _ => rfl
theorem RoundTrip.ld_b_l : RoundTrip.Statement .ld_b_l := fun _ _ => rfl
theorem RoundTrip.ld_b_mhl : RoundTrip.Statement .ld_b_mhl := fun _ _ => rfl
theorem RoundTrip.ld_b_a : RoundTrip.Statement .ld_b_a := fun _ _ => rfl
theorem RoundTrip.ld_c_b : RoundTrip.Statement .ld_c_b := fun _ _ => rfl
theorem RoundTrip.ld_c_c : RoundTrip.Statement .ld_c_c := fun _ _ => rfl
theorem RoundTrip.ld_c_d : RoundTrip.Statement .ld_c_d := fun _ _ => rfl
theorem RoundTrip.ld_c_e : RoundTrip.Statement .ld_c_e := fun _ _ => rfl
theorem RoundTrip.ld_c_h : RoundTrip.Statement .ld_c_h := fun _ _ => rfl
theorem RoundTrip.ld_c_l : RoundTrip.Statement .ld_c_l := fun _ _ => rfl
theorem RoundTrip.ld_c_mhl : RoundTrip.Statement .ld_c_mhl := fun _ _ => rfl
theorem RoundTrip.ld_c_a : RoundTrip.Statement .ld_c_a := fun _ _ => rfl
theorem RoundTrip.ld_d_b : RoundTrip.Statement .ld_d_b := fun _ _ => rfl
theorem RoundTrip.ld_d_c : RoundTrip.Statement .ld_d_c := fun _ _ => rfl
theorem RoundTrip.ld_d_d : RoundTrip.Statement .ld_d_d := fun _ _ => rfl
theorem RoundTrip.ld_d_e : RoundTrip.Statement .ld_d_e := fun _ _ => rfl
theorem RoundTrip.ld_d_h : RoundTrip.Statement .ld_d_h := fun _ _ => rfl
theorem RoundTrip.ld_d_l : RoundTrip.Statement .ld_d_l := fun _ _ => rfl
theorem RoundTrip.ld_d_mhl : RoundTrip.Statement .ld_d_mhl := fun _ _ => rfl
theorem RoundTrip.ld_d_a : RoundTrip.Statement .ld_d_a := fun _ _ => rfl
theorem RoundTrip.ld_e_b : RoundTrip.Statement .ld_e_b := fun _ _ => rfl
theorem RoundTrip.ld_e_c : RoundTrip.Statement .ld_e_c := fun _ _ => rfl
theorem RoundTrip.ld_e_d : RoundTrip.Statement .ld_e_d := fun _ _ => rfl
theorem RoundTrip.ld_e_e : RoundTrip.Statement .ld_e_e := fun _ _ => rfl
theorem RoundTrip.ld_e_h : RoundTrip.Statement .ld_e_h := fun _ _ => rfl
theorem RoundTrip.ld_e_l : RoundTrip.Statement .ld_e_l := fun _ _ => rfl
theorem RoundTrip.ld_e_mhl : RoundTrip.Statement .ld_e_mhl := fun _ _ => rfl
theorem RoundTrip.ld_e_a : RoundTrip.Statement .ld_e_a := fun _ _ => rfl
theorem RoundTrip.ld_h_b : RoundTrip.Statement .ld_h_b := fun _ _ => rfl
theorem RoundTrip.ld_h_c : RoundTrip.Statement .ld_h_c := fun _ _ => rfl
theorem RoundTrip.ld_h_d : RoundTrip.Statement .ld_h_d := fun _ _ => rfl
theorem RoundTrip.ld_h_e : RoundTrip.Statement .ld_h_e := fun _ _ => rfl
theorem RoundTrip.ld_h_h : RoundTrip.Statement .ld_h_h := fun _ _ => rfl
theorem RoundTrip.ld_h_l : RoundTrip.Statement .ld_h_l := fun _ _ => rfl
theorem RoundTrip.ld_h_mhl : RoundTrip.Statement .ld_h_mhl := fun _ _ => rfl
theorem RoundTrip.ld_h_a : RoundTrip.Statement .ld_h_a := fun _ _ => rfl
theorem RoundTrip.ld_l_b : RoundTrip.Statement .ld_l_b := fun _ _ => rfl
theorem RoundTrip.ld_l_c : RoundTrip.Statement .ld_l_c := fun _ _ => rfl
theorem RoundTrip.ld_l_d : RoundTrip.Statement .ld_l_d := fun _ _ => rfl
theorem RoundTrip.ld_l_e : RoundTrip.Statement .ld_l_e := fun _ _ => rfl
theorem RoundTrip.ld_l_h : RoundTrip.Statement .ld_l_h := fun _ _ => rfl
theorem RoundTrip.ld_l_l : RoundTrip.Statement .ld_l_l := fun _ _ => rfl
theorem RoundTrip.ld_l_mhl : RoundTrip.Statement .ld_l_mhl := fun _ _ => rfl
theorem RoundTrip.ld_l_a : RoundTrip.Statement .ld_l_a := fun _ _ => rfl
theorem RoundTrip.ld_mhl_b : RoundTrip.Statement .ld_mhl_b := fun _ _ => rfl
theorem RoundTrip.ld_mhl_c : RoundTrip.Statement .ld_mhl_c := fun _ _ => rfl
theorem RoundTrip.ld_mhl_d : RoundTrip.Statement .ld_mhl_d := fun _ _ => rfl
theorem RoundTrip.ld_mhl_e : RoundTrip.Statement .ld_mhl_e := fun _ _ => rfl
theorem RoundTrip.ld_mhl_h : RoundTrip.Statement .ld_mhl_h := fun _ _ => rfl
theorem RoundTrip.ld_mhl_l : RoundTrip.Statement .ld_mhl_l := fun _ _ => rfl
theorem RoundTrip.halt : RoundTrip.Statement .halt := fun _ _ => rfl
theorem RoundTrip.ld_mhl_a : RoundTrip.Statement .ld_mhl_a := fun _ _ => rfl
theorem RoundTrip.ld_a_b : RoundTrip.Statement .ld_a_b := fun _ _ => rfl
theorem RoundTrip.ld_a_c : RoundTrip.Statement .ld_a_c := fun _ _ => rfl
theorem RoundTrip.ld_a_d : RoundTrip.Statement .ld_a_d := fun _ _ => rfl
theorem RoundTrip.ld_a_e : RoundTrip.Statement .ld_a_e := fun _ _ => rfl
theorem RoundTrip.ld_a_h : RoundTrip.Statement .ld_a_h := fun _ _ => rfl
theorem RoundTrip.ld_a_l : RoundTrip.Statement .ld_a_l := fun _ _ => rfl
theorem RoundTrip.ld_a_mhl : RoundTrip.Statement .ld_a_mhl := fun _ _ => rfl
theorem RoundTrip.ld_a_a : RoundTrip.Statement .ld_a_a := fun _ _ => rfl
theorem RoundTrip.add_a_b : RoundTrip.Statement .add_a_b := fun _ _ => rfl
theorem RoundTrip.add_a_c : RoundTrip.Statement .add_a_c := fun _ _ => rfl
theorem RoundTrip.add_a_d : RoundTrip.Statement .add_a_d := fun _ _ => rfl
theorem RoundTrip.add_a_e : RoundTrip.Statement .add_a_e := fun _ _ => rfl
theorem RoundTrip.add_a_h : RoundTrip.Statement .add_a_h := fun _ _ => rfl
theorem RoundTrip.add_a_l : RoundTrip.Statement .add_a_l := fun _ _ => rfl
theorem RoundTrip.add_a_mhl : RoundTrip.Statement .add_a_mhl := fun _ _ => rfl
theorem RoundTrip.add_a_a : RoundTrip.Statement .add_a_a := fun _ _ => rfl
theorem RoundTrip.adc_a_b : RoundTrip.Statement .adc_a_b := fun _ _ => rfl
theorem RoundTrip.adc_a_c : RoundTrip.Statement .adc_a_c := fun _ _ => rfl
theorem RoundTrip.adc_a_d : RoundTrip.Statement .adc_a_d := fun _ _ => rfl
theorem RoundTrip.adc_a_e : RoundTrip.Statement .adc_a_e := fun _ _ => rfl
theorem RoundTrip.adc_a_h : RoundTrip.Statement .adc_a_h := fun _ _ => rfl
theorem RoundTrip.adc_a_l : RoundTrip.Statement .adc_a_l := fun _ _ => rfl
theorem RoundTrip.adc_a_mhl : RoundTrip.Statement .adc_a_mhl := fun _ _ => rfl
theorem RoundTrip.adc_a_a : RoundTrip.Statement .adc_a_a := fun _ _ => rfl
theorem RoundTrip.sub_b : RoundTrip.Statement .sub_b := fun _ _ => rfl
theorem RoundTrip.sub_c : RoundTrip.Statement .sub_c := fun _ _ => rfl
theorem RoundTrip.sub_d : RoundTrip.Statement .sub_d := fun _ _ => rfl
theorem RoundTrip.sub_e : RoundTrip.Statement .sub_e := fun _ _ => rfl
theorem RoundTrip.sub_h : RoundTrip.Statement .sub_h := fun _ _ => rfl
theorem RoundTrip.sub_l : RoundTrip.Statement .sub_l := fun _ _ => rfl
theorem RoundTrip.sub_mhl : RoundTrip.Statement .sub_mhl := fun _ _ => rfl
theorem RoundTrip.sub_a : RoundTrip.Statement .sub_a := fun _ _ => rfl
theorem RoundTrip.sbc_a_b : RoundTrip.Statement .sbc_a_b := fun _ _ => rfl
theorem RoundTrip.sbc_a_c : RoundTrip.Statement .sbc_a_c := fun _ _ => rfl
theorem RoundTrip.sbc_a_d : RoundTrip.Statement .sbc_a_d := fun _ _ => rfl
theorem RoundTrip.sbc_a_e : RoundTrip.Statement .sbc_a_e := fun _ _ => rfl
theorem RoundTrip.sbc_a_h : RoundTrip.Statement .sbc_a_h := fun _ _ => rfl
theorem RoundTrip.sbc_a_l : RoundTrip.Statement .sbc_a_l := fun _ _ => rfl
theorem RoundTrip.sbc_a_mhl : RoundTrip.Statement .sbc_a_mhl := fun _ _ => rfl
theorem RoundTrip.sbc_a_a : RoundTrip.Statement .sbc_a_a := fun _ _ => rfl
theorem RoundTrip.and_b : RoundTrip.Statement .and_b := fun _ _ => rfl
theorem RoundTrip.and_c : RoundTrip.Statement .and_c := fun _ _ => rfl
theorem RoundTrip.and_d : RoundTrip.Statement .and_d := fun _ _ => rfl
theorem RoundTrip.and_e : RoundTrip.Statement .and_e := fun _ _ => rfl
theorem RoundTrip.and_h : RoundTrip.Statement .and_h := fun _ _ => rfl
theorem RoundTrip.and_l : RoundTrip.Statement .and_l := fun _ _ => rfl
theorem RoundTrip.and_mhl : RoundTrip.Statement .and_mhl := fun _ _ => rfl
theorem RoundTrip.and_a : RoundTrip.Statement .and_a := fun _ _ => rfl
theorem RoundTrip.xor_b : RoundTrip.Statement .xor_b := fun _ _ => rfl
theorem RoundTrip.xor_c : RoundTrip.Statement .xor_c := fun _ _ => rfl
theorem RoundTrip.xor_d : RoundTrip.Statement .xor_d := fun _ _ => rfl
theorem RoundTrip.xor_e : RoundTrip.Statement .xor_e := fun _ _ => rfl
theorem RoundTrip.xor_h : RoundTrip.Statement .xor_h := fun _ _ => rfl
theorem RoundTrip.xor_l : RoundTrip.Statement .xor_l := fun _ _ => rfl
theorem RoundTrip.xor_mhl : RoundTrip.Statement .xor_mhl := fun _ _ => rfl
theorem RoundTrip.xor_a : RoundTrip.Statement .xor_a := fun _ _ => rfl
theorem RoundTrip.or_b : RoundTrip.Statement .or_b := fun _ _ => rfl
theorem RoundTrip.or_c : RoundTrip.Statement .or_c := fun _ _ => rfl
theorem RoundTrip.or_d : RoundTrip.Statement .or_d := fun _ _ => rfl
theorem RoundTrip.or_e : RoundTrip.Statement .or_e := fun _ _ => rfl
theorem RoundTrip.or_h : RoundTrip.Statement .or_h := fun _ _ => rfl
theorem RoundTrip.or_l : RoundTrip.Statement .or_l := fun _ _ => rfl
theorem RoundTrip.or_mhl : RoundTrip.Statement .or_mhl := fun _ _ => rfl
theorem RoundTrip.or_a : RoundTrip.Statement .or_a := fun _ _ => rfl
theorem RoundTrip.cp_b : RoundTrip.Statement .cp_b := fun _ _ => rfl
theorem RoundTrip.cp_c : RoundTrip.Statement .cp_c := fun _ _ => rfl
theorem RoundTrip.cp_d : RoundTrip.Statement .cp_d := fun _ _ => rfl
theorem RoundTrip.cp_e : RoundTrip.Statement .cp_e := fun _ _ => rfl
theorem RoundTrip.cp_h : RoundTrip.Statement .cp_h := fun _ _ => rfl
theorem RoundTrip.cp_l : RoundTrip.Statement .cp_l := fun _ _ => rfl
theorem RoundTrip.cp_mhl : RoundTrip.Statement .cp_mhl := fun _ _ => rfl
theorem RoundTrip.cp_a : RoundTrip.Statement .cp_a := fun _ _ => rfl
theorem RoundTrip.ret_nz : RoundTrip.Statement .ret_nz := fun _ _ => rfl
theorem RoundTrip.pop_bc : RoundTrip.Statement .pop_bc := fun _ _ => rfl
theorem RoundTrip.push_bc : RoundTrip.Statement .push_bc := fun _ _ => rfl
theorem RoundTrip.rst_00h : RoundTrip.Statement .rst_00h := fun _ _ => rfl
theorem RoundTrip.ret_z : RoundTrip.Statement .ret_z := fun _ _ => rfl
theorem RoundTrip.ret : RoundTrip.Statement .ret := fun _ _ => rfl
theorem RoundTrip.prefix_cb : RoundTrip.Statement .prefix_cb := fun h => absurd h (by decide)
theorem RoundTrip.rst_08h : RoundTrip.Statement .rst_08h := fun _ _ => rfl
theorem RoundTrip.ret_nc : RoundTrip.Statement .ret_nc := fun _ _ => rfl
theorem RoundTrip.pop_de : RoundTrip.Statement .pop_de := fun _ _ => rfl
theorem RoundTrip.push_de : RoundTrip.Statement .push_de := fun _ _ => rfl
theorem RoundTrip.rst_10h : RoundTrip.Statement .rst_10h := fun _ _ => rfl
theorem RoundTrip.ret_c : RoundTrip.Statement .ret_c := fun _ _ => rfl
theorem RoundTrip.reti : RoundTrip.Statement .reti := fun _ _ => rfl
theorem RoundTrip.rst_18h : RoundTrip.Statement .rst_18h := fun _ _ => rfl
theorem RoundTrip.pop_hl : RoundTrip.Statement .pop_hl := fun _ _ => rfl
theorem RoundTrip.ldh_mc_a : RoundTrip.Statement .ldh_mc_a := fun _ _ => rfl
theorem RoundTrip.push_hl : RoundTrip.Statement .push_hl := fun _ _ => rfl
theorem RoundTrip.rst_20h : RoundTrip.Statement .rst_20h := fun _ _ => rfl
theorem RoundTrip.jp_hl : RoundTrip.Statement .jp_hl := fun _ _ => rfl
theorem RoundTrip.rst_28h : RoundTrip.Statement .rst_28h := fun _ _ => rfl
theorem RoundTrip.pop_af : RoundTrip.Statement .pop_af := fun _ _ => rfl
theorem RoundTrip.ldh_a_mc : RoundTrip.Statement .ldh_a_mc := fun _ _ => rfl
theorem RoundTrip.di : RoundTrip.Statement .di := fun _ _ => rfl
theorem RoundTrip.push_af : RoundTrip.Statement .push_af := fun _ _ => rfl
theorem RoundTrip.rst_30h : RoundTrip.Statement .rst_30h := fun _ _ => rfl
theorem RoundTrip.ld_sp_hl : RoundTrip.Statement .ld_sp_hl := fun _ _ => rfl
theorem RoundTrip.ei : RoundTrip.Statement .ei := fun _ _ => rfl
theorem RoundTrip.rst_38h : RoundTrip.Statement .rst_38h := fun _ _ => rfl
theorem RoundTrip.rlc_b : RoundTrip.Statement .rlc_b := fun _ _ => rfl
theorem RoundTrip.rlc_c : RoundTrip.Statement .rlc_c := fun _ _ => rfl
theorem RoundTrip.rlc_d : RoundTrip.Statement .rlc_d := fun _ _ => rfl
theorem RoundTrip.rlc_e : RoundTrip.Statement .rlc_e := fun _ _ => rfl
theorem RoundTrip.rlc_h : RoundTrip.Statement .rlc_h := fun _ _ => rfl
theorem RoundTrip.rlc_l : RoundTrip.Statement .rlc_l := fun _ _ => rfl
theorem RoundTrip.rlc_mhl : RoundTrip.Statement .rlc_mhl := fun _ _ => rfl
theorem RoundTrip.rlc_a : RoundTrip.Statement .rlc_a := fun _ _ => rfl
theorem RoundTrip.rrc_b : RoundTrip.Statement .rrc_b := fun _ _ => rfl
theorem RoundTrip.rrc_c : RoundTrip.Statement .rrc_c := fun _ _ => rfl
theorem RoundTrip.rrc_d : RoundTrip.Statement .rrc_d := fun _ _ => rfl
theorem RoundTrip.rrc_e : RoundTrip.Statement .rrc_e := fun _ _ => rfl
theorem RoundTrip.rrc_h : RoundTrip.Statement .rrc_h := fun _ _ => rfl
theorem RoundTrip.rrc_l : RoundTrip.Statement .rrc_l := fun _ _ => rfl
theorem RoundTrip.rrc_mhl : RoundTrip.Statement .rrc_mhl := fun _ _ => rfl
theorem RoundTrip.rrc_a : RoundTrip.Statement .rrc_a := fun _ _ => rfl
theorem RoundTrip.rl_b : RoundTrip.Statement .rl_b := fun _ _ => rfl
theorem RoundTrip.rl_c : RoundTrip.Statement .rl_c := fun _ _ => rfl
theorem RoundTrip.rl_d : RoundTrip.Statement .rl_d := fun _ _ => rfl
theorem RoundTrip.rl_e : RoundTrip.Statement .rl_e := fun _ _ => rfl
theorem RoundTrip.rl_h : RoundTrip.Statement .rl_h := fun _ _ => rfl
theorem RoundTrip.rl_l : RoundTrip.Statement .rl_l := fun _ _ => rfl
theorem RoundTrip.rl_mhl : RoundTrip.Statement .rl_mhl := fun _ _ => rfl
theorem RoundTrip.rl_a : RoundTrip.Statement .rl_a := fun _ _ => rfl
theorem RoundTrip.rr_b : RoundTrip.Statement .rr_b := fun _ _ => rfl
theorem RoundTrip.rr_c : RoundTrip.Statement .rr_c := fun _ _ => rfl
theorem RoundTrip.rr_d : RoundTrip.Statement .rr_d := fun _ _ => rfl
theorem RoundTrip.rr_e : RoundTrip.Statement .rr_e := fun _ _ => rfl
theorem RoundTrip.rr_h : RoundTrip.Statement .rr_h := fun _ _ => rfl
theorem RoundTrip.rr_l : RoundTrip.Statement .rr_l := fun _ _ => rfl
theorem RoundTrip.rr_mhl : RoundTrip.Statement .rr_mhl := fun _ _ => rfl
theorem RoundTrip.rr_a : RoundTrip.Statement .rr_a := fun _ _ => rfl
theorem RoundTrip.sla_b : RoundTrip.Statement .sla_b := fun _ _ => rfl
theorem RoundTrip.sla_c : RoundTrip.Statement .sla_c := fun _ _ => rfl
theorem RoundTrip.sla_d : RoundTrip.Statement .sla_d := fun _ _ => rfl
theorem RoundTrip.sla_e : RoundTrip.Statement .sla_e := fun _ _ => rfl
theorem RoundTrip.sla_h : RoundTrip.Statement .sla_h := fun _ _ => rfl
theorem RoundTrip.sla_l : RoundTrip.Statement .sla_l := fun _ _ => rfl
theorem RoundTrip.sla_mhl : RoundTrip.Statement .sla_mhl := fun _ _ => rfl
theorem RoundTrip.sla_a : RoundTrip.Statement .sla_a := fun _ _ => rfl
theorem RoundTrip.sra_b : RoundTrip.Statement .sra_b := fun _ _ => rfl
theorem RoundTrip.sra_c : RoundTrip.Statement .sra_c := fun _ _ => rfl
theorem RoundTrip.sra_d : RoundTrip.Statement .sra_d := fun _ _ => rfl
theorem RoundTrip.sra_e : RoundTrip.Statement .sra_e := fun _ _ => rfl
theorem RoundTrip.sra_h : RoundTrip.Statement .sra_h := fun _ _ => rfl
theorem RoundTrip.sra_l : RoundTrip.Statement .sra_l := fun _ _ => rfl
theorem RoundTrip.sra_mhl : RoundTrip.Statement .sra_mhl := fun _ _ => rfl
theorem RoundTrip.sra_a : RoundTrip.Statement .sra_a := fun _ _ => rfl
theorem RoundTrip.swap_b : RoundTrip.Statement .swap_b := fun _ _ => rfl
theorem RoundTrip.swap_c : RoundTrip.Statement .swap_c := fun _ _ => rfl
theorem RoundTrip.swap_d : RoundTrip.Statement .swap_d := fun _ _ => rfl
theorem RoundTrip.swap_e : RoundTrip.Statement .swap_e := fun _ _ => rfl
theorem RoundTrip.swap_h : RoundTrip.Statement .swap_h := fun _ _ => rfl
theorem RoundTrip.swap_l : RoundTrip.Statement .swap_l := fun _ _ => rfl
theorem RoundTrip.swap_mhl : RoundTrip.Statement .swap_mhl := fun _ _ => rfl
theorem RoundTrip.swap_a : RoundTrip.Statement .swap_a := fun _ _ => rfl
theorem RoundTrip.srl_b : RoundTrip.Statement .srl_b := fun _ _ => rfl
theorem RoundTrip.srl_c : RoundTrip.Statement .srl_c := fun _ _ => rfl
theorem RoundTrip.srl_d : RoundTrip.Statement .srl_d := fun _ _ => rfl
theorem RoundTrip.srl_e : RoundTrip.Statement .srl_e := fun _ _ => rfl
theorem RoundTrip.srl_h : RoundTrip.Statement .srl_h := fun _ _ => rfl
theorem RoundTrip.srl_l : RoundTrip.Statement .srl_l := fun _ _ => rfl
theorem RoundTrip.srl_mhl : RoundTrip.Statement .srl_mhl := fun _ _ => rfl
theorem RoundTrip.srl_a : RoundTrip.Statement .srl_a := fun _ _ => rfl
theorem RoundTrip.bit_0_b : RoundTrip.Statement .bit_0_b := fun _ _ => rfl
theorem RoundTrip.bit_0_c : RoundTrip.Statement .bit_0_c := fun _ _ => rfl
theorem RoundTrip.bit_0_d : RoundTrip.Statement .bit_0_d := fun _ _ => rfl
theorem RoundTrip.bit_0_e : RoundTrip.Statement .bit_0_e := fun _ _ => rfl
theorem RoundTrip.bit_0_h : RoundTrip.Statement .bit_0_h := fun _ _ => rfl
theorem RoundTrip.bit_0_l : RoundTrip.Statement .bit_0_l := fun _ _ => rfl
theorem RoundTrip.bit_0_mhl : RoundTrip.Statement .bit_0_mhl := fun _ _ => rfl
theorem RoundTrip.bit_0_a : RoundTrip.Statement .bit_0_a := fun _ _ => rfl
theorem RoundTrip.bit_1_b : RoundTrip.Statement .bit_1_b := fun _ _ => rfl
theorem RoundTrip.bit_1_c : RoundTrip.Statement .bit_1_c := fun _ _ => rfl
theorem RoundTrip.bit_1_d : RoundTrip.Statement .bit_1_d := fun _ _ => rfl
theorem RoundTrip.bit_1_e : RoundTrip.Statement .bit_1_e := fun _ _ => rfl
theorem RoundTrip.bit_1_h : RoundTrip.Statement .bit_1_h := fun _ _ => rfl
theorem RoundTrip.bit_1_l : RoundTrip.Statement .bit_1_l := fun _ _ => rfl
theorem RoundTrip.bit_1_mhl : RoundTrip.Statement .bit_1_mhl := fun _ _ => rfl
theorem RoundTrip.bit_1_a : RoundTrip.Statement .bit_1_a := fun _ _ => rfl
theorem RoundTrip.bit_2_b : RoundTrip.Statement .bit_2_b := fun _ _ => rfl
theorem RoundTrip.bit_2_c : RoundTrip.Statement .bit_2_c := fun _ _ => rfl
theorem RoundTrip.bit_2_d : RoundTrip.Statement .bit_2_d := fun _ _ => rfl
theorem RoundTrip.bit_2_e : RoundTrip.Statement .bit_2_e := fun _ _ => rfl
theorem RoundTrip.bit_2_h : RoundTrip.Statement .bit_2_h := fun _ _ => rfl
theorem RoundTrip.bit_2_l : RoundTrip.Statement .bit_2_l := fun _ _ => rfl
theorem RoundTrip.bit_2_mhl : RoundTrip.Statement .bit_2_mhl := fun _ _ => rfl
theorem RoundTrip.bit_2_a : RoundTrip.Statement .bit_2_a := fun _ _ => rfl
theorem RoundTrip.bit_3_b : RoundTrip.Statement .bit_3_b := fun _ _ => rfl
theorem RoundTrip.bit_3_c : RoundTrip.Statement .bit_3_c := fun _ _ => rfl
theorem RoundTrip.bit_3_d : RoundTrip.Statement .bit_3_d := fun _ _ => rfl
theorem RoundTrip.bit_3_e : RoundTrip.Statement .bit_3_e := fun _ _ => rfl
theorem RoundTrip.bit_3_h : RoundTrip.Statement .bit_3_h := fun _ _ => rfl
theorem RoundTrip.bit_3_l : RoundTrip.Statement .bit_3_l := fun _ _ => rfl
theorem RoundTrip.bit_3_mhl : RoundTrip.Statement .bit_3_mhl := fun _ _ => rfl
theorem RoundTrip.bit_3_a : RoundTrip.Statement .bit_3_a := fun _ _ => rfl
theorem RoundTrip.bit_4_b : RoundTrip.Statement .bit_4_b := fun _ _ => rfl
theorem RoundTrip.bit_4_c : RoundTrip.Statement .bit_4_c := fun _ _ => rfl
theorem RoundTrip.bit_4_d : RoundTrip.Statement .bit_4_d := fun _ _ => rfl
theorem RoundTrip.bit_4_e : RoundTrip.Statement .bit_4_e := fun _ _ => rfl
theorem RoundTrip.bit_4_h : RoundTrip.Statement .bit_4_h := fun _ _ => rfl
theorem RoundTrip.bit_4_l : RoundTrip.Statement .bit_4_l := fun _ _ => rfl
theorem RoundTrip.bit_4_mhl : RoundTrip.Statement .bit_4_mhl := fun _ _ => rfl
theorem RoundTrip.bit_4_a : RoundTrip.Statement .bit_4_a := fun _ _ => rfl
theorem RoundTrip.bit_5_b : RoundTrip.Statement .bit_5_b := fun _ _ => rfl
theorem RoundTrip.bit_5_c : RoundTrip.Statement .bit_5_c := fun _ _ => rfl
theorem RoundTrip.bit_5_d : RoundTrip.Statement .bit_5_d := fun _ _ => rfl
theorem RoundTrip.bit_5_e : RoundTrip.Statement .bit_5_e := fun _ _ => rfl
theorem RoundTrip.bit_5_h : RoundTrip.Statement .bit_5_h := fun _ _ => rfl
theorem RoundTrip.bit_5_l : RoundTrip.Statement .bit_5_l := fun _ _ => rfl
theorem RoundTrip.bit_5_mhl : RoundTrip.Statement .bit_5_mhl := fun _ _ => rfl
theorem RoundTrip.bit_5_a : RoundTrip.Statement .bit_5_a := fun _ _ => rfl
theorem RoundTrip.bit_6_b : RoundTrip.Statement .bit_6_b := fun _ _ => rfl
theorem RoundTrip.bit_6_c : RoundTrip.Statement .bit_6_c := fun _ _ => rfl
theorem RoundTrip.bit_6_d : RoundTrip.Statement .bit_6_d := fun _ _ => rfl
theorem RoundTrip.bit_6_e : RoundTrip.Statement .bit_6_e := fun _ _ => rfl
theorem RoundTrip.bit_6_h : RoundTrip.Statement .bit_6_h := fun _ _ => rfl
theorem RoundTrip.bit_6_l : RoundTrip.Statement .bit_6_l := fun _ _ => rfl
theorem RoundTrip.bit_6_mhl : RoundTrip.Statement .bit_6_mhl := fun _ _ => rfl
theorem RoundTrip.bit_6_a : RoundTrip.Statement .bit_6_a := fun _ _ => rfl
theorem RoundTrip.bit_7_b : RoundTrip.Statement .bit_7_b := fun _ _ => rfl
theorem RoundTrip.bit_7_c : RoundTrip.Statement .bit_7_c := fun _ _ => rfl
theorem RoundTrip.bit_7_d : RoundTrip.Statement .bit_7_d := fun _ _ => rfl
theorem RoundTrip.bit_7_e : RoundTrip.Statement .bit_7_e := fun _ _ => rfl
theorem RoundTrip.bit_7_h : RoundTrip.Statement .bit_7_h := fun _ _ => rfl
theorem RoundTrip.bit_7_l : RoundTrip.Statement .bit_7_l := fun _ _ => rfl
theorem RoundTrip.bit_7_mhl : RoundTrip.Statement .bit_7_mhl := fun _ _ => rfl
theorem RoundTrip.bit_7_a : RoundTrip.Statement .bit_7_a := fun _ _ => rfl
theorem RoundTrip.res_0_b : RoundTrip.Statement .res_0_b := fun _ _ => rfl
theorem RoundTrip.res_0_c : RoundTrip.Statement .res_0_c := fun _ _ => rfl
theorem RoundTrip.res_0_d : RoundTrip.Statement .res_0_d := fun _ _ => rfl
theorem RoundTrip.res_0_e : RoundTrip.Statement .res_0_e := fun _ _ => rfl
theorem RoundTrip.res_0_h : RoundTrip.Statement .res_0_h := fun _ _ => rfl
theorem RoundTrip.res_0_l : RoundTrip.Statement .res_0_l := fun _ _ => rfl
theorem RoundTrip.res_0_mhl : RoundTrip.Statement .res_0_mhl := fun _ _ => rfl
theorem RoundTrip.res_0_a : RoundTrip.Statement .res_0_a := fun _ _ => rfl
theorem RoundTrip.res_1_b : RoundTrip.Statement .res_1_b := fun _ _ => rfl
theorem RoundTrip.res_1_c : RoundTrip.Statement .res_1_c := fun _ _ => rfl
theorem RoundTrip.res_1_d : RoundTrip.Statement .res_1_d := fun _ _ => rfl
theorem RoundTrip.res_1_e : RoundTrip.Statement .res_1_e := fun _ _ => rfl
theorem RoundTrip.res_1_h : RoundTrip.Statement .res_1_h := fun _ _ => rfl
theorem RoundTrip.res_1_l : RoundTrip.Statement .res_1_l := fun _ _ => rfl
theorem RoundTrip.res_1_mhl : RoundTrip.Statement .res_1_mhl := fun _ _ => rfl
theorem RoundTrip.res_1_a : RoundTrip.Statement .res_1_a := fun _ _ => rfl
theorem RoundTrip.res_2_b : RoundTrip.Statement .res_2_b := fun _ _ => rfl
theorem RoundTrip.res_2_c : RoundTrip.Statement .res_2_c := fun _ _ => rfl
theorem RoundTrip.res_2_d : RoundTrip.Statement .res_2_d := fun _ _ => rfl
theorem RoundTrip.res_2_e : RoundTrip.Statement .res_2_e := fun _ _ => rfl
theorem RoundTrip.res_2_h : RoundTrip.Statement .res_2_h := fun _ _ => rfl
theorem RoundTrip.res_2_l : RoundTrip.Statement .res_2_l := fun _ _ => rfl
theorem RoundTrip.res_2_mhl : RoundTrip.Statement .res_2_mhl := fun _ _ => rfl
theorem RoundTrip.res_2_a : RoundTrip.Statement .res_2_a := fun _ _ => rfl
theorem RoundTrip.res_3_b : RoundTrip.Statement .res_3_b := fun _ _ => rfl
theorem RoundTrip.res_3_c : RoundTrip.Statement .res_3_c := fun _ _ => rfl
theorem RoundTrip.res_3_d : RoundTrip.Statement .res_3_d := fun _ _ => rfl
theorem RoundTrip.res_3_e : RoundTrip.Statement .res_3_e := fun _ _ => rfl
theorem RoundTrip.res_3_h : RoundTrip.Statement .res_3_h := fun _ _ => rfl
theorem RoundTrip.res_3_l : RoundTrip.Statement .res_3_l := fun _ _ => rfl
theorem RoundTrip.res_3_mhl : RoundTrip.Statement .res_3_mhl := fun _ _ => rfl
theorem RoundTrip.res_3_a : RoundTrip.Statement .res_3_a := fun _ _ => rfl
theorem RoundTrip.res_4_b : RoundTrip.Statement .res_4_b := fun _ _ => rfl
theorem RoundTrip.res_4_c : RoundTrip.Statement .res_4_c := fun _ _ => rfl
theorem RoundTrip.res_4_d : RoundTrip.Statement .res_4_d := fun _ _ => rfl
theorem RoundTrip.res_4_e : RoundTrip.Statement .res_4_e := fun _ _ => rfl
theorem RoundTrip.res_4_h : RoundTrip.Statement .res_4_h := fun _ _ => rfl
theorem RoundTrip.res_4_l : RoundTrip.Statement .res_4_l := fun _ _ => rfl
theorem RoundTrip.res_4_mhl : RoundTrip.Statement .res_4_mhl := fun _ _ => rfl
theorem RoundTrip.res_4_a : RoundTrip.Statement .res_4_a := fun _ _ => rfl
theorem RoundTrip.res_5_b : RoundTrip.Statement .res_5_b := fun _ _ => rfl
theorem RoundTrip.res_5_c : RoundTrip.Statement .res_5_c := fun _ _ => rfl
theorem RoundTrip.res_5_d : RoundTrip.Statement .res_5_d := fun _ _ => rfl
theorem RoundTrip.res_5_e : RoundTrip.Statement .res_5_e := fun _ _ => rfl
theorem RoundTrip.res_5_h : RoundTrip.Statement .res_5_h := fun _ _ => rfl
theorem RoundTrip.res_5_l : RoundTrip.Statement .res_5_l := fun _ _ => rfl
theorem RoundTrip.res_5_mhl : RoundTrip.Statement .res_5_mhl := fun _ _ => rfl
theorem RoundTrip.res_5_a : RoundTrip.Statement .res_5_a := fun _ _ => rfl
theorem RoundTrip.res_6_b : RoundTrip.Statement .res_6_b := fun _ _ => rfl
theorem RoundTrip.res_6_c : RoundTrip.Statement .res_6_c := fun _ _ => rfl
theorem RoundTrip.res_6_d : RoundTrip.Statement .res_6_d := fun _ _ => rfl
theorem RoundTrip.res_6_e : RoundTrip.Statement .res_6_e := fun _ _ => rfl
theorem RoundTrip.res_6_h : RoundTrip.Statement .res_6_h := fun _ _ => rfl
theorem RoundTrip.res_6_l : RoundTrip.Statement .res_6_l := fun _ _ => rfl
theorem RoundTrip.res_6_mhl : RoundTrip.Statement .res_6_mhl := fun _ _ => rfl
theorem RoundTrip.res_6_a : RoundTrip.Statement .res_6_a := fun _ _ => rfl
theorem RoundTrip.res_7_b : RoundTrip.Statement .res_7_b := fun _ _ => rfl
theorem RoundTrip.res_7_c : RoundTrip.Statement .res_7_c := fun _ _ => rfl
theorem RoundTrip.res_7_d : RoundTrip.Statement .res_7_d := fun _ _ => rfl
theorem RoundTrip.res_7_e : RoundTrip.Statement .res_7_e := fun _ _ => rfl
theorem RoundTrip.res_7_h : RoundTrip.Statement .res_7_h := fun _ _ => rfl
theorem RoundTrip.res_7_l : RoundTrip.Statement .res_7_l := fun _ _ => rfl
theorem RoundTrip.res_7_mhl : RoundTrip.Statement .res_7_mhl := fun _ _ => rfl
theorem RoundTrip.res_7_a : RoundTrip.Statement .res_7_a := fun _ _ => rfl
theorem RoundTrip.set_0_b : RoundTrip.Statement .set_0_b := fun _ _ => rfl
theorem RoundTrip.set_0_c : RoundTrip.Statement .set_0_c := fun _ _ => rfl
theorem RoundTrip.set_0_d : RoundTrip.Statement .set_0_d := fun _ _ => rfl
theorem RoundTrip.set_0_e : RoundTrip.Statement .set_0_e := fun _ _ => rfl
theorem RoundTrip.set_0_h : RoundTrip.Statement .set_0_h := fun _ _ => rfl
theorem RoundTrip.set_0_l : RoundTrip.Statement .set_0_l := fun _ _ => rfl
theorem RoundTrip.set_0_mhl : RoundTrip.Statement .set_0_mhl := fun _ _ => rfl
theorem RoundTrip.set_0_a : RoundTrip.Statement .set_0_a := fun _ _ => rfl
theorem RoundTrip.set_1_b : RoundTrip.Statement .set_1_b := fun _ _ => rfl
theorem RoundTrip.set_1_c : RoundTrip.Statement .set_1_c := fun _ _ => rfl
theorem RoundTrip.set_1_d : RoundTrip.Statement .set_1_d := fun _ _ => rfl
theorem RoundTrip.set_1_e : RoundTrip.Statement .set_1_e := fun _ _ => rfl
theorem RoundTrip.set_1_h : RoundTrip.Statement .set_1_h := fun _ _ => rfl
theorem RoundTrip.set_1_l : RoundTrip.Statement .set_1_l := fun _ _ => rfl
theorem RoundTrip.set_1_mhl : RoundTrip.Statement .set_1_mhl := fun _ _ => rfl
theorem RoundTrip.set_1_a : RoundTrip.Statement .set_1_a := fun _ _ => rfl
theorem RoundTrip.set_2_b : RoundTrip.Statement .set_2_b := fun _ _ => rfl
theorem RoundTrip.set_2_c : RoundTrip.Statement .set_2_c := fun _ _ => rfl
theorem RoundTrip.set_2_d : RoundTrip.Statement .set_2_d := fun _ _ => rfl
theorem RoundTrip.set_2_e : RoundTrip.Statement .set_2_e := fun _ _ => rfl
theorem RoundTrip.set_2_h : RoundTrip.Statement .set_2_h := fun _ _ => rfl
theorem RoundTrip.set_2_l : RoundTrip.Statement .set_2_l := fun _ _ => rfl
theorem RoundTrip.set_2_mhl : RoundTrip.Statement .set_2_mhl := fun _ _ => rfl
theorem RoundTrip.set_2_a : RoundTrip.Statement .set_2_a := fun _ _ => rfl
theorem RoundTrip.set_3_b : RoundTrip.Statement .set_3_b := fun _ _ => rfl
theorem RoundTrip.set_3_c : RoundTrip.Statement .set_3_c := fun _ _ => rfl
theorem RoundTrip.set_3_d : RoundTrip.Statement .set_3_d := fun _ _ => rfl
theorem RoundTrip.set_3_e : RoundTrip.Statement .set_3_e := fun _ _ => rfl
theorem RoundTrip.set_3_h : RoundTrip.Statement .set_3_h := fun _ _ => rfl
theorem RoundTrip.set_3_l : RoundTrip.Statement .set_3_l := fun _ _ => rfl
theorem RoundTrip.set_3_mhl : RoundTrip.Statement .set_3_mhl := fun _ _ => rfl
theorem RoundTrip.set_3_a : RoundTrip.Statement .set_3_a := fun _ _ => rfl
theorem RoundTrip.set_4_b : RoundTrip.Statement .set_4_b := fun _ _ => rfl
theorem RoundTrip.set_4_c : RoundTrip.Statement .set_4_c := fun _ _ => rfl
theorem RoundTrip.set_4_d : RoundTrip.Statement .set_4_d := fun _ _ => rfl
theorem RoundTrip.set_4_e : RoundTrip.Statement .set_4_e := fun _ _ => rfl
theorem RoundTrip.set_4_h : RoundTrip.Statement .set_4_h := fun _ _ => rfl
theorem RoundTrip.set_4_l : RoundTrip.Statement .set_4_l := fun _ _ => rfl
theorem RoundTrip.set_4_mhl : RoundTrip.Statement .set_4_mhl := fun _ _ => rfl
theorem RoundTrip.set_4_a : RoundTrip.Statement .set_4_a := fun _ _ => rfl
theorem RoundTrip.set_5_b : RoundTrip.Statement .set_5_b := fun _ _ => rfl
theorem RoundTrip.set_5_c : RoundTrip.Statement .set_5_c := fun _ _ => rfl
theorem RoundTrip.set_5_d : RoundTrip.Statement .set_5_d := fun _ _ => rfl
theorem RoundTrip.set_5_e : RoundTrip.Statement .set_5_e := fun _ _ => rfl
theorem RoundTrip.set_5_h : RoundTrip.Statement .set_5_h := fun _ _ => rfl
theorem RoundTrip.set_5_l : RoundTrip.Statement .set_5_l := fun _ _ => rfl
theorem RoundTrip.set_5_mhl : RoundTrip.Statement .set_5_mhl := fun _ _ => rfl
theorem RoundTrip.set_5_a : RoundTrip.Statement .set_5_a := fun _ _ => rfl
theorem RoundTrip.set_6_b : RoundTrip.Statement .set_6_b := fun _ _ => rfl
theorem RoundTrip.set_6_c : RoundTrip.Statement .set_6_c := fun _ _ => rfl
theorem RoundTrip.set_6_d : RoundTrip.Statement .set_6_d := fun _ _ => rfl
theorem RoundTrip.set_6_e : RoundTrip.Statement .set_6_e := fun _ _ => rfl
theorem RoundTrip.set_6_h : RoundTrip.Statement .set_6_h := fun _ _ => rfl
theorem RoundTrip.set_6_l : RoundTrip.Statement .set_6_l := fun _ _ => rfl
theorem RoundTrip.set_6_mhl : RoundTrip.Statement .set_6_mhl := fun _ _ => rfl
theorem RoundTrip.set_6_a : RoundTrip.Statement .set_6_a := fun _ _ => rfl
theorem RoundTrip.set_7_b : RoundTrip.Statement .set_7_b := fun _ _ => rfl
theorem RoundTrip.set_7_c : RoundTrip.Statement .set_7_c := fun _ _ => rfl
theorem RoundTrip.set_7_d : RoundTrip.Statement .set_7_d := fun _ _ => rfl
theorem RoundTrip.set_7_e : RoundTrip.Statement .set_7_e := fun _ _ => rfl
theorem RoundTrip.set_7_h : RoundTrip.Statement .set_7_h := fun _ _ => rfl
theorem RoundTrip.set_7_l : RoundTrip.Statement .set_7_l := fun _ _ => rfl
theorem RoundTrip.set_7_mhl : RoundTrip.Statement .set_7_mhl := fun _ _ => rfl
theorem RoundTrip.set_7_a : RoundTrip.Statement .set_7_a := fun _ _ => rfl

end Sys2Proof.Laws
end

