-- ==== Sys2Proof/Laws/Stores.lean ====
section
/-! SUPPORT. Where the instructions store: the stored addresses of each register-indexed family, and what a read shows after each shared
operation (20_memory.md R43, R47, R48). -/

namespace Sys2Proof.Machine

theorem storeTargets_ldMhlReg (x : Reg8) (s : State) : storeTargets (Form.ldMhlReg x) s = [s.hl] := by cases x <;> rfl

theorem storeTargets_push (p : StackPair) (s : State) : storeTargets (Form.push p) s = stackTargets s := by cases p <;> rfl

theorem storeTargets_rst (y : RstIndex) (s : State) : storeTargets (Form.rst y) s = stackTargets s := by cases y <;> rfl

theorem storeTargets_callCond (cc : Cond) (nn : Word) (s : State) :
    storeTargets (Form.callCond cc nn) s = if condHolds cc s then stackTargets s else [] := by cases cc <;> rfl

theorem storeTargets_rot (op : RotOp) (s : State) : storeTargets (Form.rot op .mhl) s = [s.hl] := by cases op <;> rfl

theorem storeTargets_res (b : BitIndex) (s : State) : storeTargets (Form.res b .mhl) s = [s.hl] := by cases b <;> rfl

theorem storeTargets_set (b : BitIndex) (s : State) : storeTargets (Form.set b .mhl) s = [s.hl] := by cases b <;> rfl

/-! ### What a read shows after an update of the CPU's own state -/

@[simp] theorem byteAt_setReg (r : Reg8) (v : Byte) (s : State) (b : Word) : byteAt (s.setReg r v) b = byteAt s b := by
  cases r <;> rfl

@[simp] theorem byteAt_setPair (p : Pair16) (v : Word) (s : State) (b : Word) : byteAt (s.setPair p v) b = byteAt s b := by
  cases p <;> rfl

@[simp] theorem byteAt_setStackPair (p : StackPair) (v : Word) (s : State) (b : Word) :
    byteAt (s.setStackPair p v) b = byteAt s b := by cases p <;> rfl

@[simp] theorem byteAt_took (n : Nat) (s : State) (b : Word) : byteAt (s.took n) b = byteAt s b := rfl

@[simp] theorem byteAt_setPc (v : Word) (s : State) (b : Word) : byteAt (s.setPc v) b = byteAt s b := rfl

@[simp] theorem byteAt_setHl (v : Word) (s : State) (b : Word) : byteAt (s.setHl v) b = byteAt s b := rfl

@[simp] theorem byteAt_setFlags (z n h c : Bool) (s : State) (b : Word) : byteAt (s.setFlags z n h c) b = byteAt s b := rfl

@[simp] theorem byteAt_setAluFlags (o : AluOut) (s : State) (b : Word) : byteAt (s.setAluFlags o) b = byteAt s b := rfl

@[simp] theorem byteAt_popped (s : State) (b : Word) : byteAt (popped s) b = byteAt s b := rfl

@[simp] theorem byteAt_countRead (s : State) (b : Word) : byteAt s.countRead b = byteAt s b := rfl

@[simp] theorem byteAt_afterFetch (s : State) (b : Word) : byteAt (afterFetch s) b = byteAt s b := rfl

@[simp] theorem byteAt_operandRead (x : Operand8) (s : State) (b : Word) : byteAt (operandRead x s) b = byteAt s b := by
  cases x <;> rfl

@[simp] theorem operandRead_hl (x : Operand8) (s : State) : (operandRead x s).hl = s.hl := by cases x <;> rfl

/-- A push leaves what its two stores do not reach. -/
theorem byteAt_push16 (v : Word) (s : State) (b : Word) (h : s.Inv)
    (hb : ∀ a ∈ stackTargets s, storeReaches a b = false) : byteAt (push16 v s) b = byteAt s b := by
  have h0 : State.Inv { s with sp := s.sp - 2 } := { h with }
  exact (byteAt_writeByte _ _ _ _ (writeByte_inv _ _ _ h0) (hb _ (List.mem_cons_of_mem _ List.mem_cons_self))).trans
    (byteAt_writeByte _ _ _ _ h0 (hb _ List.mem_cons_self))

/-- An operand write leaves what its store does not reach. -/
theorem byteAt_operandWrite (x : Operand8) (v : Byte) (s : State) (b : Word) (h : s.Inv)
    (hb : x = .mhl → storeReaches s.hl b = false) : byteAt (operandWrite x v s) b = byteAt s b := by
  cases x with
  | reg r => exact byteAt_setReg r v s b
  | mhl => exact byteAt_writeByte _ _ _ _ h (hb rfl)

end Sys2Proof.Machine
end

