-- ==== Sys2Proof/Tests/Slice0.lean ====
section
/-! SUPPORT. Tests: the ill-formed terms, every encoding of the opcode table, worked vectors of 95_test_vectors.md, and a witness for the
hypotheses of every statement. -/

set_option Elab.async false

namespace Sys2Proof.Tests

open Sys2Proof Sys2Proof.Machine

/-! ## Well-formedness -/

/-- A byte that has an instruction is not `unmapped` (30_encoding.md R102). -/
theorem test_wellFormed_refuses_mapped_opcode : WellFormed (.unmapped 0x00) = false := by decide

/-- The prefix byte alone is no instruction (30_encoding.md R103). -/
theorem test_wellFormed_refuses_prefix : WellFormed .prefix_cb = false := by decide

/-- Two terms the checks accept. -/
theorem test_wellFormed_accepts : WellFormed (.unmapped 0xFD) = true ∧ WellFormed (.ld_a_n 0xFF) = true := by decide

/-! ## Decoding: every byte of the first table, with 0x34 0x12 behind it, and every byte of the CB table
(30_encoding.md R98 to R104, spec/opcode_table.json) -/

/-- The instruction a list of bytes decodes to. -/
def decoded (bs : List Byte) : Option Instr :=
  match decode bs with
  | .ok i _ => some i
  | .rejected _ => none

/-- The sixteen instructions of one row of the first table. -/
def baseRow (k : Nat) : List (Option Instr) :=
  (List.range 16).map fun j => decoded [BitVec.ofNat 8 (k * 16 + j), 0x34, 0x12]

/-- The sixteen instructions of one row of the CB table. -/
def cbRow (k : Nat) : List (Option Instr) :=
  (List.range 16).map fun j => decoded [0xCB, BitVec.ofNat 8 (k * 16 + j)]

theorem test_decode_row_0 : baseRow 0 =
    [some .nop, some (.ld_bc_nn 0x1234), some .ld_mbc_a, some .inc_bc, some .inc_b, some .dec_b, some (.ld_b_n 0x34),
    some .rlca, some (.ld_mnn_sp 0x1234), some .add_hl_bc, some .ld_a_mbc, some .dec_bc, some .inc_c, some .dec_c,
    some (.ld_c_n 0x34), some .rrca] := by decide +kernel

theorem test_decode_row_1 : baseRow 1 =
    [some (.stop 0x34), some (.ld_de_nn 0x1234), some .ld_mde_a, some .inc_de, some .inc_d, some .dec_d, some (.ld_d_n 0x34),
    some .rla, some (.jr_e 0x34), some .add_hl_de, some .ld_a_mde, some .dec_de, some .inc_e, some .dec_e, some (.ld_e_n 0x34),
    some .rra] := by decide +kernel

theorem test_decode_row_2 : baseRow 2 =
    [some (.jr_nz_e 0x34), some (.ld_hl_nn 0x1234), some .ld_mhli_a, some .inc_hl, some .inc_h, some .dec_h,
    some (.ld_h_n 0x34), some .daa, some (.jr_z_e 0x34), some .add_hl_hl, some .ld_a_mhli, some .dec_hl, some .inc_l,
    some .dec_l, some (.ld_l_n 0x34), some .cpl] := by decide +kernel

theorem test_decode_row_3 : baseRow 3 =
    [some (.jr_nc_e 0x34), some (.ld_sp_nn 0x1234), some .ld_mhld_a, some .inc_sp, some .inc_mhl, some .dec_mhl,
    some (.ld_mhl_n 0x34), some .scf, some (.jr_c_e 0x34), some .add_hl_sp, some .ld_a_mhld, some .dec_sp, some .inc_a,
    some .dec_a, some (.ld_a_n 0x34), some .ccf] := by decide +kernel

theorem test_decode_row_4 : baseRow 4 =
    [some .ld_b_b, some .ld_b_c, some .ld_b_d, some .ld_b_e, some .ld_b_h, some .ld_b_l, some .ld_b_mhl, some .ld_b_a,
    some .ld_c_b, some .ld_c_c, some .ld_c_d, some .ld_c_e, some .ld_c_h, some .ld_c_l, some .ld_c_mhl, some .ld_c_a] := by decide +kernel

theorem test_decode_row_5 : baseRow 5 =
    [some .ld_d_b, some .ld_d_c, some .ld_d_d, some .ld_d_e, some .ld_d_h, some .ld_d_l, some .ld_d_mhl, some .ld_d_a,
    some .ld_e_b, some .ld_e_c, some .ld_e_d, some .ld_e_e, some .ld_e_h, some .ld_e_l, some .ld_e_mhl, some .ld_e_a] := by decide +kernel

theorem test_decode_row_6 : baseRow 6 =
    [some .ld_h_b, some .ld_h_c, some .ld_h_d, some .ld_h_e, some .ld_h_h, some .ld_h_l, some .ld_h_mhl, some .ld_h_a,
    some .ld_l_b, some .ld_l_c, some .ld_l_d, some .ld_l_e, some .ld_l_h, some .ld_l_l, some .ld_l_mhl, some .ld_l_a] := by decide +kernel

theorem test_decode_row_7 : baseRow 7 =
    [some .ld_mhl_b, some .ld_mhl_c, some .ld_mhl_d, some .ld_mhl_e, some .ld_mhl_h, some .ld_mhl_l, some .halt, some .ld_mhl_a,
    some .ld_a_b, some .ld_a_c, some .ld_a_d, some .ld_a_e, some .ld_a_h, some .ld_a_l, some .ld_a_mhl, some .ld_a_a] := by decide +kernel

theorem test_decode_row_8 : baseRow 8 =
    [some .add_a_b, some .add_a_c, some .add_a_d, some .add_a_e, some .add_a_h, some .add_a_l, some .add_a_mhl, some .add_a_a,
    some .adc_a_b, some .adc_a_c, some .adc_a_d, some .adc_a_e, some .adc_a_h, some .adc_a_l, some .adc_a_mhl, some .adc_a_a] := by decide +kernel

theorem test_decode_row_9 : baseRow 9 =
    [some .sub_b, some .sub_c, some .sub_d, some .sub_e, some .sub_h, some .sub_l, some .sub_mhl, some .sub_a, some .sbc_a_b,
    some .sbc_a_c, some .sbc_a_d, some .sbc_a_e, some .sbc_a_h, some .sbc_a_l, some .sbc_a_mhl, some .sbc_a_a] := by decide +kernel

theorem test_decode_row_A : baseRow 10 =
    [some .and_b, some .and_c, some .and_d, some .and_e, some .and_h, some .and_l, some .and_mhl, some .and_a, some .xor_b,
    some .xor_c, some .xor_d, some .xor_e, some .xor_h, some .xor_l, some .xor_mhl, some .xor_a] := by decide +kernel

theorem test_decode_row_B : baseRow 11 =
    [some .or_b, some .or_c, some .or_d, some .or_e, some .or_h, some .or_l, some .or_mhl, some .or_a, some .cp_b, some .cp_c,
    some .cp_d, some .cp_e, some .cp_h, some .cp_l, some .cp_mhl, some .cp_a] := by decide +kernel

theorem test_decode_row_C : baseRow 12 =
    [some .ret_nz, some .pop_bc, some (.jp_nz_nn 0x1234), some (.jp_nn 0x1234), some (.call_nz_nn 0x1234), some .push_bc,
    some (.add_a_n 0x34), some .rst_00h, some .ret_z, some .ret, some (.jp_z_nn 0x1234), some .swap_h, some (.call_z_nn 0x1234),
    some (.call_nn 0x1234), some (.adc_a_n 0x34), some .rst_08h] := by decide +kernel

theorem test_decode_row_D : baseRow 13 =
    [some .ret_nc, some .pop_de, some (.jp_nc_nn 0x1234), some (.unmapped 0xD3), some (.call_nc_nn 0x1234), some .push_de,
    some (.sub_n 0x34), some .rst_10h, some .ret_c, some .reti, some (.jp_c_nn 0x1234), some (.unmapped 0xDB),
    some (.call_c_nn 0x1234), some (.unmapped 0xDD), some (.sbc_a_n 0x34), some .rst_18h] := by decide +kernel

theorem test_decode_row_E : baseRow 14 =
    [some (.ldh_mn_a 0x34), some .pop_hl, some .ldh_mc_a, some (.unmapped 0xE3), some (.unmapped 0xE4), some .push_hl,
    some (.and_n 0x34), some .rst_20h, some (.add_sp_e 0x34), some .jp_hl, some (.ld_mnn_a 0x1234), some (.unmapped 0xEB),
    some (.unmapped 0xEC), some (.unmapped 0xED), some (.xor_n 0x34), some .rst_28h] := by decide +kernel

theorem test_decode_row_F : baseRow 15 =
    [some (.ldh_a_mn 0x34), some .pop_af, some .ldh_a_mc, some .di, some (.unmapped 0xF4), some .push_af, some (.or_n 0x34),
    some .rst_30h, some (.ld_hl_sp_e 0x34), some .ld_sp_hl, some (.ld_a_mnn 0x1234), some .ei, some (.unmapped 0xFC),
    some (.unmapped 0xFD), some (.cp_n 0x34), some .rst_38h] := by decide +kernel

theorem test_decode_cb_row_0 : cbRow 0 =
    [some .rlc_b, some .rlc_c, some .rlc_d, some .rlc_e, some .rlc_h, some .rlc_l, some .rlc_mhl, some .rlc_a, some .rrc_b,
    some .rrc_c, some .rrc_d, some .rrc_e, some .rrc_h, some .rrc_l, some .rrc_mhl, some .rrc_a] := by decide +kernel

theorem test_decode_cb_row_1 : cbRow 1 =
    [some .rl_b, some .rl_c, some .rl_d, some .rl_e, some .rl_h, some .rl_l, some .rl_mhl, some .rl_a, some .rr_b, some .rr_c,
    some .rr_d, some .rr_e, some .rr_h, some .rr_l, some .rr_mhl, some .rr_a] := by decide +kernel

theorem test_decode_cb_row_2 : cbRow 2 =
    [some .sla_b, some .sla_c, some .sla_d, some .sla_e, some .sla_h, some .sla_l, some .sla_mhl, some .sla_a, some .sra_b,
    some .sra_c, some .sra_d, some .sra_e, some .sra_h, some .sra_l, some .sra_mhl, some .sra_a] := by decide +kernel

theorem test_decode_cb_row_3 : cbRow 3 =
    [some .swap_b, some .swap_c, some .swap_d, some .swap_e, some .swap_h, some .swap_l, some .swap_mhl, some .swap_a,
    some .srl_b, some .srl_c, some .srl_d, some .srl_e, some .srl_h, some .srl_l, some .srl_mhl, some .srl_a] := by decide +kernel

theorem test_decode_cb_row_4 : cbRow 4 =
    [some .bit_0_b, some .bit_0_c, some .bit_0_d, some .bit_0_e, some .bit_0_h, some .bit_0_l, some .bit_0_mhl, some .bit_0_a,
    some .bit_1_b, some .bit_1_c, some .bit_1_d, some .bit_1_e, some .bit_1_h, some .bit_1_l, some .bit_1_mhl, some .bit_1_a] := by decide +kernel

theorem test_decode_cb_row_5 : cbRow 5 =
    [some .bit_2_b, some .bit_2_c, some .bit_2_d, some .bit_2_e, some .bit_2_h, some .bit_2_l, some .bit_2_mhl, some .bit_2_a,
    some .bit_3_b, some .bit_3_c, some .bit_3_d, some .bit_3_e, some .bit_3_h, some .bit_3_l, some .bit_3_mhl, some .bit_3_a] := by decide +kernel

theorem test_decode_cb_row_6 : cbRow 6 =
    [some .bit_4_b, some .bit_4_c, some .bit_4_d, some .bit_4_e, some .bit_4_h, some .bit_4_l, some .bit_4_mhl, some .bit_4_a,
    some .bit_5_b, some .bit_5_c, some .bit_5_d, some .bit_5_e, some .bit_5_h, some .bit_5_l, some .bit_5_mhl, some .bit_5_a] := by decide +kernel

theorem test_decode_cb_row_7 : cbRow 7 =
    [some .bit_6_b, some .bit_6_c, some .bit_6_d, some .bit_6_e, some .bit_6_h, some .bit_6_l, some .bit_6_mhl, some .bit_6_a,
    some .bit_7_b, some .bit_7_c, some .bit_7_d, some .bit_7_e, some .bit_7_h, some .bit_7_l, some .bit_7_mhl, some .bit_7_a] := by decide +kernel

theorem test_decode_cb_row_8 : cbRow 8 =
    [some .res_0_b, some .res_0_c, some .res_0_d, some .res_0_e, some .res_0_h, some .res_0_l, some .res_0_mhl, some .res_0_a,
    some .res_1_b, some .res_1_c, some .res_1_d, some .res_1_e, some .res_1_h, some .res_1_l, some .res_1_mhl, some .res_1_a] := by decide +kernel

theorem test_decode_cb_row_9 : cbRow 9 =
    [some .res_2_b, some .res_2_c, some .res_2_d, some .res_2_e, some .res_2_h, some .res_2_l, some .res_2_mhl, some .res_2_a,
    some .res_3_b, some .res_3_c, some .res_3_d, some .res_3_e, some .res_3_h, some .res_3_l, some .res_3_mhl, some .res_3_a] := by decide +kernel

theorem test_decode_cb_row_A : cbRow 10 =
    [some .res_4_b, some .res_4_c, some .res_4_d, some .res_4_e, some .res_4_h, some .res_4_l, some .res_4_mhl, some .res_4_a,
    some .res_5_b, some .res_5_c, some .res_5_d, some .res_5_e, some .res_5_h, some .res_5_l, some .res_5_mhl, some .res_5_a] := by decide +kernel

theorem test_decode_cb_row_B : cbRow 11 =
    [some .res_6_b, some .res_6_c, some .res_6_d, some .res_6_e, some .res_6_h, some .res_6_l, some .res_6_mhl, some .res_6_a,
    some .res_7_b, some .res_7_c, some .res_7_d, some .res_7_e, some .res_7_h, some .res_7_l, some .res_7_mhl, some .res_7_a] := by decide +kernel

theorem test_decode_cb_row_C : cbRow 12 =
    [some .set_0_b, some .set_0_c, some .set_0_d, some .set_0_e, some .set_0_h, some .set_0_l, some .set_0_mhl, some .set_0_a,
    some .set_1_b, some .set_1_c, some .set_1_d, some .set_1_e, some .set_1_h, some .set_1_l, some .set_1_mhl, some .set_1_a] := by decide +kernel

theorem test_decode_cb_row_D : cbRow 13 =
    [some .set_2_b, some .set_2_c, some .set_2_d, some .set_2_e, some .set_2_h, some .set_2_l, some .set_2_mhl, some .set_2_a,
    some .set_3_b, some .set_3_c, some .set_3_d, some .set_3_e, some .set_3_h, some .set_3_l, some .set_3_mhl, some .set_3_a] := by decide +kernel

theorem test_decode_cb_row_E : cbRow 14 =
    [some .set_4_b, some .set_4_c, some .set_4_d, some .set_4_e, some .set_4_h, some .set_4_l, some .set_4_mhl, some .set_4_a,
    some .set_5_b, some .set_5_c, some .set_5_d, some .set_5_e, some .set_5_h, some .set_5_l, some .set_5_mhl, some .set_5_a] := by decide +kernel

theorem test_decode_cb_row_F : cbRow 15 =
    [some .set_6_b, some .set_6_c, some .set_6_d, some .set_6_e, some .set_6_h, some .set_6_l, some .set_6_mhl, some .set_6_a,
    some .set_7_b, some .set_7_c, some .set_7_d, some .set_7_e, some .set_7_h, some .set_7_l, some .set_7_mhl, some .set_7_a] := by decide +kernel

/-- A list that ends before its instruction does is rejected by name. -/
theorem test_decode_truncated : decode [0x3E] = .rejected .truncated ∧ decode [0xCB] = .rejected .truncated ∧
    decode [0x01, 0x34] = .rejected .truncated ∧ decode [] = .rejected .truncated := by decide

/-- Words as spec/opcode_table.json numbers them (assumption 1). -/
theorem test_table_words : decodeTableWord 8 0x76 = some .halt ∧ decodeTableWord 16 0xCB37 = some .swap_a ∧
    decodeTableWord 16 0x423E = some (.ld_a_n 0x42) ∧ decodeTableWord 24 0x123421 = some (.ld_hl_nn 0x1234) := by
  decide

/-! ## Helpers -/

/-- A small state: LCD off, timer off, no boot image, PC in work RAM. -/
def base : State :=
  { State.powerOn Config.default with bootActive := false, pc := 0xC000, sp := 0xD000 }

/-- The same with the LCD on, at the start of a frame, with the shortest transfer. -/
def litBase : State := { base with ppu := { base.ppu with lcdc := 0x80, mode := .oamScan } }

/-- What decoding the bytes and running the instruction answers, PC past them. -/
def ran (bs : List Byte) (s : State) : Option State :=
  match decode bs with
  | .ok i _ =>
    match exec i { s with pc := s.pc + BitVec.ofNat 16 bs.length } with
    | .next t => some t
    | _ => none
  | .rejected _ => none

/-- One step. -/
def stepped (s : State) : Option State :=
  match step s with
  | .next t => some t
  | _ => none

/-- One step with the bytes placed at PC. -/
def stepOn (bs : List Byte) (s : State) : Option State := stepped (placeBytes s.pc bs s)

/-- A state with the flag bits of `f`. -/
def withF (f : Byte) (s : State) : State :=
  { s with fZ := f.getLsbD 7, fN := f.getLsbD 6, fH := f.getLsbD 5, fC := f.getLsbD 4 }

/-- A state with HL. -/
def withHl (v : Word) (s : State) : State := { s with h := hiByte v, l := loByte v }

/-- A state with a byte at an address. -/
def withByte (a : Word) (v : Byte) (s : State) : State := placeByte a v s

theorem stepped_next (s : State) (h : (stepped s).isSome = true) : ∃ t, step s = .next t := by
  unfold stepped at h
  split at h
  · exact ⟨_, by assumption⟩
  · cases h

/-! ## 8-bit loads (95_test_vectors.md 2.1) -/

theorem test_ld_a_b : (ran [0x78] { base with b := 0x12 }).map (fun t => (t.a, t.pc, t.cycles)) =
    some (0x12, 0xC001, 4) := by decide +kernel

theorem test_ld_a_n : (ran [0x3E, 0x42] base).map (fun t => (t.a, t.pc, t.cycles)) = some (0x42, 0xC002, 8) := by
  decide +kernel

theorem test_ld_b_mhl : (ran [0x46] (withByte 0xC000 0x5A (withHl 0xC000 base))).map (fun t => (t.b, t.cycles)) =
    some (0x5A, 8) := by decide +kernel

theorem test_ld_h_mhl : (ran [0x66] (withByte 0xC000 0xD1 (withHl 0xC000 base))).map (fun t => (t.h, t.l, t.cycles)) =
    some (0xD1, 0x00, 8) := by decide +kernel

theorem test_ld_mhl_a : (ran [0x77] (withHl 0xC000 { base with a := 0x99 })).map (fun t => (byteAt t 0xC000, t.cycles)) =
    some (some 0x99, 8) := by decide +kernel

theorem test_ld_mhl_n : (ran [0x36, 0x7F] (withHl 0xC010 base)).map (fun t => (byteAt t 0xC010, t.cycles)) =
    some (some 0x7F, 12) := by decide +kernel

theorem test_ld_a_mnn : (ran [0xFA, 0x34, 0xC2] (withByte 0xC234 0x08 base)).map (fun t => (t.a, t.cycles)) =
    some (0x08, 16) := by decide +kernel

theorem test_ld_mnn_a : (ran [0xEA, 0x00, 0xC1] { base with a := 0x3C }).map (fun t => (byteAt t 0xC100, t.cycles)) =
    some (some 0x3C, 16) := by decide +kernel

theorem test_ldh_a_mn : (ran [0xF0, 0x0F] { base with iflag := 0x04 }).map (fun t => (t.a, t.cycles)) =
    some (0xE4, 12) := by decide +kernel

theorem test_ldh_mn_a : (ran [0xE0, 0x07] { base with a := 0x05 }).map (fun t => (t.timer.tac, byteAt t 0xFF07, t.cycles)) =
    some (0b101, some 0xFD, 12) := by decide +kernel

theorem test_ldh_mc_a : (ran [0xE2] { base with c := 0x80, a := 0x77 }).map (fun t => (Memory.get t.hram 0, t.cycles)) =
    some (0x77, 8) := by decide +kernel

theorem test_ld_a_mhli : (ran [0x2A] (withByte 0xC000 0x01 (withHl 0xC000 base))).map (fun t => (t.a, t.hl, t.cycles)) =
    some (0x01, 0xC001, 8) := by decide +kernel

theorem test_ld_a_mhli_wraps : (ran [0x2A] (withHl 0xFFFF { base with ie := 0x1F })).map (fun t => (t.a, t.hl)) =
    some (0x1F, 0x0000) := by decide +kernel

theorem test_ld_a_mhld : (ran [0x3A] (withByte 0xC001 0x02 (withHl 0xC001 base))).map (fun t => (t.a, t.hl, t.cycles)) =
    some (0x02, 0xC000, 8) := by decide +kernel

theorem test_ld_mhli_a : (ran [0x22] (withHl 0x9FFF { base with a := 0xAA })).map
    (fun t => (Memory.get t.vram 0x1FFF, t.hl)) = some (0xAA, 0xA000) := by decide +kernel

theorem test_ld_mhld_a : (ran [0x32] (withByte 0x9FFF 0x11 (withHl 0x9FFF base))).map
    (fun t => (Memory.get t.vram 0x1FFF, t.vram, t.hl)) = some (0x00, [], 0x9FFE) := by decide +kernel

/-! ## 16-bit loads and the stack (2.2, S3, S10) -/

theorem test_ld_hl_nn : (ran [0x21, 0x34, 0x12] base).map (fun t => (t.h, t.l, t.cycles)) = some (0x12, 0x34, 12) := by
  decide +kernel

theorem test_ld_sp_nn : (ran [0x31, 0xFE, 0xFF] base).map (fun t => (t.sp, t.cycles)) = some (0xFFFE, 12) := by
  decide +kernel

theorem test_ld_mnn_sp : (ran [0x08, 0x00, 0xC1] { base with sp := 0xDFF0 }).map
    (fun t => (byteAt t 0xC100, byteAt t 0xC101, t.cycles)) = some (some 0xF0, some 0xDF, 20) := by decide +kernel

theorem test_ld_sp_hl : (ran [0xF9] (withHl 0xD000 base)).map (fun t => (t.sp, t.cycles)) = some (0xD000, 8) := by
  decide +kernel

theorem test_ld_hl_sp_e_negative : (ran [0xF8, 0xFF] (withF 0xC0 { base with sp := 0x0000 })).map
    (fun t => (t.hl, t.f, t.cycles)) = some (0xFFFF, 0x00, 12) := by decide +kernel

theorem test_ld_hl_sp_e_carries : (ran [0xF8, 0xFF] { base with sp := 0x0001 }).map (fun t => (t.hl, t.f)) =
    some (0x0000, 0x30) := by decide +kernel

theorem test_push_bc : (ran [0xC5] { base with sp := 0xFFFE, b := 0x12, c := 0x34 }).map
    (fun t => (byteAt t 0xFFFD, byteAt t 0xFFFC, t.sp, t.cycles)) = some (some 0x12, some 0x34, 0xFFFC, 16) := by
  decide +kernel

theorem test_push_bc_across_the_top : (ran [0xC5] { base with sp := 0x0001, b := 0xAB, c := 0xCD }).map
    (fun t => (t.ie, t.sp)) = some (0xCD, 0xFFFF) := by decide +kernel

theorem test_pop_de : (ran [0xD1] (withByte 0xFFFC 0x34 (withByte 0xFFFD 0x12 { base with sp := 0xFFFC }))).map
    (fun t => (t.d, t.e, t.sp, t.cycles)) = some (0x12, 0x34, 0xFFFE, 12) := by decide +kernel

theorem test_pop_af_masks : (ran [0xF1] (withByte 0xC000 0xFF (withByte 0xC001 0x12 { base with sp := 0xC000 }))).map
    (fun t => (t.a, t.f)) = some (0x12, 0xF0) := by decide +kernel

/-! ## 8-bit arithmetic and logic (2.3, S1, S2): A, operand in B, carry in, to A and F -/

/-- A and F after an operation on A and B. -/
def aluRun (op : Byte) (x y : Byte) (f : Byte) : Option (Byte × Byte) :=
  (ran [op] (withF f { base with a := x, b := y })).map fun t => (t.a, t.f)

theorem test_add_a_b : [aluRun 0x80 0x3A 0xC6 0, aluRun 0x80 0x80 0x80 0, aluRun 0x80 0x0F 0x01 0, aluRun 0x80 0 0 0] =
    [some (0x00, 0xB0), some (0x00, 0x90), some (0x10, 0x20), some (0x00, 0x80)] := by decide +kernel

theorem test_add_a_a : aluRun 0x87 0x88 0 0 = some (0x10, 0x30) := by decide +kernel

theorem test_adc_a_b : [aluRun 0x88 0xE1 0x0F 0x10, aluRun 0x88 0xFF 0x00 0x10, aluRun 0x88 0xFF 0xFF 0x10] =
    [some (0xF1, 0x20), some (0x00, 0xB0), some (0xFF, 0x30)] := by decide +kernel

theorem test_sub_b : [aluRun 0x90 0x3E 0x3E 0, aluRun 0x90 0x00 0x01 0, aluRun 0x90 0x10 0x01 0] =
    [some (0x00, 0xC0), some (0xFF, 0x70), some (0x0F, 0x60)] := by decide +kernel

theorem test_sbc_a_b : [aluRun 0x98 0x3B 0x2A 0x10, aluRun 0x98 0 0 0x10, aluRun 0x98 0 0xFF 0x10, aluRun 0x98 0x10 0x0F 0x10] =
    [some (0x10, 0x40), some (0xFF, 0x70), some (0x00, 0xF0), some (0x00, 0xE0)] := by decide +kernel

theorem test_sbc_a_a : [aluRun 0x9F 0x55 0 0x10, aluRun 0x9F 0x55 0 0x00] = [some (0xFF, 0x70), some (0x00, 0xC0)] := by
  decide +kernel

theorem test_and_b : aluRun 0xA0 0x5A 0x3F 0 = some (0x1A, 0x20) := by decide +kernel

theorem test_xor_n : (ran [0xEE, 0x0F] { base with a := 0xFF }).map (fun t => (t.a, t.f, t.cycles)) =
    some (0xF0, 0x00, 8) := by decide +kernel

theorem test_or_n : (ran [0xF6, 0x03] { base with a := 0x5A }).map (fun t => (t.a, t.f)) = some (0x5B, 0x00) := by
  decide +kernel

theorem test_cp_n : (ran [0xFE, 0x40] { base with a := 0x3C }).map (fun t => (t.a, t.f)) = some (0x3C, 0x50) := by
  decide +kernel

theorem test_cp_a : aluRun 0xBF 0x77 0 0 = some (0x77, 0xC0) := by decide +kernel

theorem test_inc_a : [aluRun 0x3C 0xFF 0 0x00, aluRun 0x3C 0xFF 0 0xB0, aluRun 0x3C 0x0F 0 0, aluRun 0x3C 0x7F 0 0] =
    [some (0x00, 0xA0), some (0x00, 0xB0), some (0x10, 0x20), some (0x80, 0x20)] := by decide +kernel

theorem test_inc_mhl : (ran [0x34] (withByte 0xC000 0x50 (withHl 0xC000 base))).map
    (fun t => (byteAt t 0xC000, t.f, t.cycles)) = some (some 0x51, 0x00, 12) := by decide +kernel

theorem test_dec_b : [(ran [0x05] { base with b := 0x01 }).map (fun t => (t.b, t.f)),
    (ran [0x05] { base with b := 0x00 }).map (fun t => (t.b, t.f)), (ran [0x05] { base with b := 0x10 }).map (fun t => (t.b, t.f))] =
    [some (0x00, 0xC0), some (0xFF, 0x60), some (0x0F, 0x60)] := by decide +kernel

theorem test_dec_mhl : (ran [0x35] (withHl 0xC000 base)).map (fun t => (byteAt t 0xC000, t.f, t.cycles)) =
    some (some 0xFF, 0x60, 12) := by decide +kernel

theorem test_daa_after_addition : [aluRun 0x27 0x7D 0 0, aluRun 0x27 0x9A 0 0, aluRun 0x27 0x0A 0 0, aluRun 0x27 0xA0 0 0,
    aluRun 0x27 0xBD 0 0] =
    [some (0x83, 0x00), some (0x00, 0x90), some (0x10, 0x00), some (0x00, 0x90), some (0x23, 0x10)] := by decide +kernel

theorem test_daa_after_subtraction : [aluRun 0x27 0xFF 0 0x70, aluRun 0x27 0x00 0 0x60] =
    [some (0x99, 0x50), some (0xFA, 0x40)] := by decide +kernel

theorem test_cpl : [aluRun 0x2F 0x35 0 0x90, aluRun 0x2F 0xFF 0 0x00] = [some (0xCA, 0xF0), some (0x00, 0x60)] := by
  decide +kernel

theorem test_scf_ccf : [aluRun 0x37 0 0 0x80, aluRun 0x3F 0 0 0x90, aluRun 0x3F 0 0 0x60] =
    [some (0, 0x90), some (0, 0x80), some (0, 0x10)] := by decide +kernel

/-! ## 16-bit arithmetic (2.4) -/

theorem test_add_hl_bc : [(ran [0x09] (withF 0x80 (withHl 0x8A23 { base with b := 0x06, c := 0x05 }))).map (fun t => (t.hl, t.f)),
    (ran [0x09] (withHl 0xFFFF { base with c := 0x01 })).map (fun t => (t.hl, t.f)),
    (ran [0x09] (withHl 0x0FFF { base with c := 0x01 })).map (fun t => (t.hl, t.f))] =
    [some (0x9028, 0xA0), some (0x0000, 0x30), some (0x1000, 0x20)] := by decide +kernel

theorem test_add_hl_hl : (ran [0x29] (withHl 0x1234 base)).map (fun t => (t.hl, t.f, t.cycles)) =
    some (0x2468, 0x00, 8) := by decide +kernel

theorem test_inc_de : (ran [0x13] (withF 0xF0 { base with d := 0x23, e := 0x5F })).map (fun t => (t.de, t.f, t.cycles)) =
    some (0x2360, 0xF0, 8) := by decide +kernel

theorem test_dec_bc : (ran [0x0B] { base with c := 0x01 }).map (fun t => (t.bc, t.f)) = some (0x0000, 0x00) := by
  decide +kernel

theorem test_dec_sp_wraps : (ran [0x3B] { base with sp := 0x0000 }).map (fun t => t.sp) = some 0xFFFF := by decide +kernel

theorem test_add_sp_e : [(ran [0xE8, 0xFE] { base with sp := 0xFFF8 }).map (fun t => (t.sp, t.f, t.cycles)),
    (ran [0xE8, 0xFF] { base with sp := 0x0000 }).map (fun t => (t.sp, t.f, t.cycles)),
    (ran [0xE8, 0x80] { base with sp := 0xD000 }).map (fun t => (t.sp, t.f, t.cycles))] =
    [some (0xFFF6, 0x30, 16), some (0xFFFF, 0x00, 16), some (0xCF80, 0x00, 16)] := by decide +kernel

/-! ## Rotates, shifts and bits (2.5, S12) -/

theorem test_rlca_rrca : [aluRun 0x07 0x85 0 0, aluRun 0x07 0x00 0 0, aluRun 0x0F 0x3B 0 0] =
    [some (0x0B, 0x10), some (0x00, 0x00), some (0x9D, 0x10)] := by decide +kernel

theorem test_rla_rra : [aluRun 0x17 0x95 0 0x10, aluRun 0x17 0x80 0 0, aluRun 0x1F 0x81 0 0, aluRun 0x1F 0x01 0 0] =
    [some (0x2B, 0x10), some (0x00, 0x10), some (0x40, 0x10), some (0x00, 0x10)] := by decide +kernel

theorem test_rlc_b : [(ran [0xCB, 0x00] { base with b := 0x85 }).map (fun t => (t.b, t.f, t.cycles)),
    (ran [0xCB, 0x00] base).map (fun t => (t.b, t.f, t.cycles))] = [some (0x0B, 0x10, 8), some (0x00, 0x80, 8)] := by
  decide +kernel

theorem test_rrc_c : (ran [0xCB, 0x09] { base with c := 0x01 }).map (fun t => (t.c, t.f)) = some (0x80, 0x10) := by
  decide +kernel

theorem test_rl_l : (ran [0xCB, 0x15] { base with l := 0x80 }).map (fun t => (t.l, t.f)) = some (0x00, 0x90) := by
  decide +kernel

theorem test_rr_a : (ran [0xCB, 0x1F] { base with a := 0x01 }).map (fun t => (t.a, t.f)) = some (0x00, 0x90) := by
  decide +kernel

theorem test_sla_d : [(ran [0xCB, 0x22] { base with d := 0x80 }).map (fun t => (t.d, t.f)),
    (ran [0xCB, 0x22] { base with d := 0xFF }).map (fun t => (t.d, t.f))] = [some (0x00, 0x90), some (0xFE, 0x10)] := by
  decide +kernel

theorem test_sra_a : [(ran [0xCB, 0x2F] { base with a := 0x8A }).map (fun t => (t.a, t.f)),
    (ran [0xCB, 0x2F] { base with a := 0xFF }).map (fun t => (t.a, t.f))] = [some (0xC5, 0x00), some (0xFF, 0x10)] := by
  decide +kernel

theorem test_swap_a : (ran [0xCB, 0x37] (withF 0x10 { base with a := 0xF1 })).map (fun t => (t.a, t.f, t.pc, t.cycles)) =
    some (0x1F, 0x00, 0xC002, 8) := by decide +kernel

theorem test_srl_mhl : (ran [0xCB, 0x3E] (withByte 0xC000 0xFF (withHl 0xC000 base))).map
    (fun t => (byteAt t 0xC000, t.f, t.cycles)) = some (some 0x7F, 0x10, 16) := by decide +kernel

theorem test_bit_7_h : [(ran [0xCB, 0x7C] (withF 0x10 { base with h := 0x80 })).map (fun t => (t.f, t.cycles)),
    (ran [0xCB, 0x7C] { base with h := 0x7F }).map (fun t => (t.f, t.cycles))] = [some (0x30, 8), some (0xA0, 8)] := by
  decide +kernel

theorem test_bit_0_mhl : (ran [0xCB, 0x46] (withByte 0xC000 0x01 (withHl 0xC000 base))).map (fun t => (t.f, t.cycles)) =
    some (0x20, 12) := by decide +kernel

theorem test_res_0_a : (ran [0xCB, 0x87] (withF 0xF0 { base with a := 0xFF })).map (fun t => (t.a, t.f)) =
    some (0xFE, 0xF0) := by decide +kernel

theorem test_set_7_mhl : (ran [0xCB, 0xFE] (withHl 0xC000 base)).map (fun t => (byteAt t 0xC000, t.f, t.cycles)) =
    some (some 0x80, 0x00, 16) := by decide +kernel

/-! ## Control transfer (2.6, S11) -/

theorem test_jp_nn : (ran [0xC3, 0x50, 0x01] base).map (fun t => (t.pc, t.cycles)) = some (0x0150, 16) := by decide +kernel

theorem test_jp_z_nn : [(ran [0xCA, 0x00, 0x02] { base with fZ := true, pc := 0x0150 }).map (fun t => (t.pc, t.cycles)),
    (ran [0xCA, 0x00, 0x02] { base with pc := 0x0150 }).map (fun t => (t.pc, t.cycles))] =
    [some (0x0200, 16), some (0x0153, 12)] := by decide +kernel

theorem test_jp_hl : (ran [0xE9] (withHl 0x4000 base)).map (fun t => (t.pc, t.cycles)) = some (0x4000, 4) := by decide +kernel

theorem test_jr_e : [(ran [0x18, 0x05] { base with pc := 0x0200 }).map (fun t => t.pc),
    (ran [0x18, 0xFE] { base with pc := 0x0200 }).map (fun t => t.pc),
    (ran [0x18, 0x80] { base with pc := 0x0000 }).map (fun t => t.pc)] = [some 0x0207, some 0x0200, some 0xFF82] := by
  decide +kernel

theorem test_jr_nz_e : [(ran [0x20, 0xFB] { base with pc := 0x0210 }).map (fun t => (t.pc, t.cycles)),
    (ran [0x20, 0xFB] { base with pc := 0x0210, fZ := true }).map (fun t => (t.pc, t.cycles))] =
    [some (0x020D, 12), some (0x0212, 8)] := by decide +kernel

theorem test_call_nn : (ran [0xCD, 0x34, 0x12] { base with pc := 0x8000, sp := 0xFFFE }).map
    (fun t => (byteAt t 0xFFFD, byteAt t 0xFFFC, t.sp, t.pc, t.cycles)) =
    some (some 0x80, some 0x03, 0xFFFC, 0x1234, 24) := by decide +kernel

theorem test_call_c_nn_not_taken : (ran [0xDC, 0x00, 0x30] { base with pc := 0x0100, sp := 0xFFFE }).map
    (fun t => (t.pc, t.sp, t.hram, t.cycles)) = some (0x0103, 0xFFFE, [], 12) := by decide +kernel

/-- A return address 0x8003 on the stack at 0xFFFC. -/
def returning : State := withByte 0xFFFC 0x03 (withByte 0xFFFD 0x80 { base with sp := 0xFFFC, pc := 0x0100 })

theorem test_ret : (ran [0xC9] returning).map (fun t => (t.pc, t.sp, t.cycles)) = some (0x8003, 0xFFFE, 16) := by
  decide +kernel

theorem test_ret_z : [(ran [0xC8] { returning with fZ := true }).map (fun t => (t.pc, t.sp, t.cycles)),
    (ran [0xC8] returning).map (fun t => (t.pc, t.sp, t.cycles))] =
    [some (0x8003, 0xFFFE, 20), some (0x0101, 0xFFFC, 8)] := by decide +kernel

theorem test_reti : (ran [0xD9] returning).map (fun t => (t.pc, t.sp, t.ime, t.cycles)) =
    some (0x8003, 0xFFFE, true, 16) := by decide +kernel

theorem test_rst_28h : (ran [0xEF] { base with pc := 0x0234 }).map
    (fun t => (byteAt t 0xCFFF, byteAt t 0xCFFE, t.sp, t.pc, t.cycles)) =
    some (some 0x02, some 0x35, 0xCFFE, 0x0028, 16) := by decide +kernel

/-! ## System instructions, interrupts, steps (2.7, S7, S8, S13) -/

theorem test_ei_waits_one_instruction : (stepOn [0xFB] { base with ie := 0x01, iflag := 0x01 }).map
    (fun t => (t.ime, t.eiPending, t.pc, t.cycles)) = some (false, true, 0xC001, 4) := by decide +kernel

theorem test_ei_takes_effect : (stepOn [0x00] { base with ie := 0x01, iflag := 0x01, eiPending := true }).map
    (fun t => (t.ime, t.eiPending, t.pc)) = some (true, false, 0xC001) := by decide +kernel

theorem test_di_after_ei : (stepOn [0xF3] { base with ie := 0x01, iflag := 0x01, eiPending := true }).map
    (fun t => (t.ime, t.eiPending, t.pc, t.iflag)) = some (false, false, 0xC001, 0x01) := by decide +kernel

theorem test_dispatch_timer : (stepped { base with ime := true, ie := 0xFF, iflag := 0x04, pc := 0x1234 }).map
    (fun t => ((byteAt t 0xCFFF, byteAt t 0xCFFE, t.sp), t.pc, t.iflag, t.ime, t.cycles)) =
    some ((some 0x12, some 0x34, 0xCFFE), 0x0050, 0x00, false, 20) := by decide +kernel

theorem test_dispatch_joypad_keeps_other_requests : (stepped { base with ime := true, ie := 0x18, iflag := 0x17, pc := 0x1234 }).map
    (fun t => (t.pc, t.iflag)) = some (0x0060, 0x07) := by decide +kernel

theorem test_stop : (stepOn [0x10, 0x00] { base with timer := { base.timer with sysclk := 0x1234 } }).map
    (fun t => (t.pc, t.mode, t.timer.sysclk, t.cycles)) = some (0xC002, .stopped, 0x0004, 4) := by decide +kernel

theorem test_halt_waits : (stepOn [0x76, 0x3C] { base with ie := 0x04 }).map (fun t => (t.mode, t.pc, t.cycles)) =
    some (.halted, 0xC001, 4) := by decide +kernel

theorem test_halt_wakes_without_dispatch : (stepOn [0x3C] { base with mode := .halted, ie := 0x04, iflag := 0x04 }).map
    (fun t => (t.mode, t.a, t.pc, t.iflag, t.cycles)) = some (.running, 0x01, 0xC001, 0x04, 4) := by decide +kernel

/-- 60_exceptions.md R250: the address is that of the byte, and PC one past it, with `halt_bug` set too. -/
theorem test_halt_bug_unmapped : (stepOn [0xDD] { base with haltBug := true }).map (fun t => (t.mode, t.pc, t.haltBug, t.events)) =
    some (.faulted, 0xC001, false, [.error (.unmappedOpcode 0xDD 0xC000)]) := by decide +kernel

/-- The byte after HALT is read twice (46_system.md R241): `INC A` runs and PC stays at it. -/
theorem test_halt_bug : (stepOn [0x3C] { base with haltBug := true }).map (fun t => (t.a, t.pc, t.haltBug)) =
    some (0x01, 0xC000, false) := by decide +kernel

theorem test_unmapped : (stepOn [0xDD] base).map (fun t => (t.mode, t.pc, t.events, t.timer.sysclk)) =
    some (.faulted, 0xC001, [.error (.unmappedOpcode 0xDD 0xC000)], 0x0000) := by decide +kernel

theorem test_jr_reads_ie_and_pc_wraps : (stepped { base with pc := 0xFFFF }).map (fun t => t.pc) = some 0x0000 := by
  decide +kernel

theorem test_withFetchWord_runs : (stepped (State.reset.withFetchWord 8 0x3C)).map (fun t => (t.a, t.pc, t.cycles)) =
    some (0x02, 0x0101, 4) := by decide +kernel

/-! ## Timer (2.8, S4, S5, S14) -/

/-- A timer at its fastest rate, as S5 starts it. -/
def ticking : State :=
  { base with timer := { base.timer with tac := 0b101, tima := 0xFF, tma := 0x42 } }

/-- What S5 watches. -/
def timerView (s : State) : Byte × Bool × BitVec 5 × Nat :=
  (s.timer.tima, s.timer.reloadPending, s.iflag, s.timer.sub)

theorem test_timer_overflow : [timerView (timerStep 15 ticking), timerView (timerStep 16 ticking),
    timerView (timerStep 17 ticking), timerView (timerStep 32 ticking)] =
    [(0xFF, false, 0x00, 15), (0x00, true, 0x00, 0), (0x42, false, 0x04, 1), (0x43, false, 0x04, 0)] := by decide +kernel

theorem test_timer_rates : [timaDivisor 0b100, timaDivisor 0b101, timaDivisor 0b110, timaDivisor 0b111] =
    [1024, 16, 64, 256] := by decide

theorem test_timer_faster_rate_catches_up :
    timerView (timerTick { base with timer := { base.timer with tac := 0b101, sub := 40 } }) = (0x01, false, 0x00, 0) := by
  decide +kernel

theorem test_div_write_clears : byteAt (writeByte 0xFF04 0x77 { base with timer := { base.timer with sysclk := 0xABCC } }) 0xFF04 =
    some 0x00 := by decide +kernel

/-! ## PPU (2.9, S6) -/

/-- A state of the line machine with a transfer of 172 dots. -/
def lineAt (ly dot : Nat) (mode : PpuMode) : State :=
  { litBase with ppu := { litBase.ppu with ly := ly, dot := dot, mode := mode } }

/-- What S6 watches. -/
def lineView (s : State) : Nat × Nat × PpuMode × BitVec 5 := (s.ppu.ly, s.ppu.dot, s.ppu.mode, s.iflag)

theorem test_line_modes : [lineView (ppuStep 80 (lineAt 0 0 .oamScan)), lineView (ppuStep 172 (lineAt 0 80 .transfer))] =
    [(0, 80, .transfer, 0x00), (0, 252, .hblank, 0x00)] := by decide +kernel

theorem test_vblank_entry : lineView (ppuTick (lineAt 143 455 .hblank)) = (144, 0, .vblank, 0x01) ∧
    (ppuTick (lineAt 143 455 .hblank)).events = [.screenDraw] ∧
    lineView (ppuTick (lineAt 144 455 .vblank)) = (145, 0, .vblank, 0x00) := by decide +kernel

/-- STAT enables and LYC of a state. -/
def enabling (statEn : BitVec 4) (lyc : Byte) (s : State) : State :=
  { s with ppu := { s.ppu with statEn := statEn, lyc := lyc } }

theorem test_stat_sources : [(ppuTick (enabling 0b1000 144 (lineAt 143 455 .hblank))).iflag,
    (ppuTick (enabling 0b0001 9 (lineAt 0 251 .transfer))).iflag, (ppuTick (enabling 0b0010 9 (lineAt 143 455 .hblank))).iflag,
    (ppuTick (enabling 0b1000 144 (lineAt 0 0 .oamScan))).iflag] = [0x03, 0x02, 0x03, 0x00] := by decide +kernel

theorem test_stat_read : byteAt (lineAt 144 0 .vblank) 0xFF41 = some 0x81 ∧
    byteAt (writeByte 0xFF41 0xFF (lineAt 0 0 .oamScan)) 0xFF41 = some 0xFE := by decide +kernel

/-! ## Memory, mapper, DMA, joypad, serial (2.10, 2.11) -/

theorem test_echo : byteAt (writeByte 0xE123 0x5A base) 0xC123 = some 0x5A ∧
    byteAt (writeByte 0xC123 0x77 base) 0xE123 = some 0x77 ∧
    (writeByte 0xFDFF 0x11 base).wram = [(0x1DFF, 0x11)] := by decide +kernel

/-- An MBC1 cartridge with the given bank counts. -/
def mbc1 (romBanks ramBanks : Nat) : State :=
  { base with cfg := { base.cfg with cart := { base.cfg.cart with mapper := .mbc1, romBanks := romBanks, ramBanks := ramBanks } } }

theorem test_mbc1_rom_banks : [romHighBank (mbc1 8 0), romHighBank (writeByte 0x2100 0x05 (mbc1 8 0)),
    romHighBank (writeByte 0x2000 0x00 (mbc1 8 0)), romHighBank (writeByte 0x3FFF 0x0B (mbc1 8 0)),
    romHighBank (writeByte 0x2000 0xE5 (mbc1 8 0)),
    romHighBank (writeByte 0x4000 0x01 (writeByte 0x2000 0x05 (mbc1 64 0))),
    romLowBank (writeByte 0x6000 0x01 (writeByte 0x4000 0x01 (mbc1 64 0)))] = [1, 5, 1, 3, 5, 37, 32] := by decide +kernel

theorem test_mbc1_ram : byteAt (mbc1 8 4) 0xA000 = some 0xFF ∧
    (writeByte 0xA010 0x66 (writeByte 0x4000 0x02 (writeByte 0x6000 0x01 (writeByte 0x0000 0x0A (mbc1 8 4))))).cartRam =
      [(2 * 8192 + 0x10, 0x66)] := by decide +kernel

theorem test_dma : (ran [0xE0, 0x46] (withByte 0xC09F 0x9F (withByte 0xC001 0x01 { base with a := 0xC0 }))).map
    (fun t => (t.oam, t.dmaReg, t.cycles)) = some ([(1, 0x01), (159, 0x9F)], 0xC0, 12) := by decide +kernel

/-- A state with a boot image of one byte 0x31 and a cartridge whose first byte is 0xC3. -/
def booting : State :=
  { base with bootActive := true,
              cfg := { base.cfg with boot := some [(0, 0x31)], cart := { base.cfg.cart with rom := [(0, 0xC3), (0x100, 0x55)] } } }

theorem test_boot_overlay : byteAt booting 0x0000 = some 0x31 ∧ byteAt booting 0x0100 = some 0x55 ∧
    byteAt (writeByte 0xFF50 0x01 booting) 0x0000 = some 0xC3 ∧
    (writeByte 0xFF50 0x00 (writeByte 0xFF50 0x01 booting)).bootActive = false := by decide +kernel

theorem test_ie_if : byteAt (writeByte 0xFFFF 0xE7 base) 0xFFFF = some 0xE7 ∧
    byteAt (writeByte 0xFF0F 0xFF base) 0xFF0F = some 0xFF ∧ byteAt (writeByte 0xFF0F 0x00 base) 0xFF0F = some 0xE0 ∧
    byteAt base 0xFF03 = some 0xFF := by decide +kernel

theorem test_p1 : byteAt (writeByte 0xFF00 0x10 base) 0xFF00 = some 0xDF ∧ byteAt (writeByte 0xFF00 0x30 base) 0xFF00 = some 0xFF ∧
    byteAt (writeByte 0xFF00 0x10
      { base with joypad := { base.joypad with buttonsPrev := { Buttons.released with a := true } } }) 0xFF00 = some 0xDE := by
  decide +kernel

theorem test_serial : (ran [0xE0, 0x02] { base with a := 0x81, serial := { base.serial with sb := 0x41 } }).map
    (fun t => (t.serial, t.events, byteAt t 0xFF02)) =
      some ({ sb := 0x41, sc7 := true, sc0 := true }, [.serialOut 0x41], some 0xFF) ∧
    (serialComplete 0xFF { base with serial := { sb := 0x41, sc7 := true, sc0 := true } }).iflag = 0x08 := by decide +kernel

/-! ## Witnesses: for each statement with hypotheses, a concrete state and operands that meet them -/

theorem base_inv : State.Inv base where
  cfgValid := by decide
  bootImage := by decide
  vramWf := rfl
  wramWf := rfl
  oamWf := rfl
  hramWf := rfl
  cartRamWf := rfl
  bank1 := by decide
  sub := by decide
  ly := by decide
  dot := by decide
  m3low := by decide
  m3high := by decide
  lcdOff := by decide
  lcdMode := by decide
  inputTimer := by decide
  haltBug := by decide

theorem litBase_inv : State.Inv litBase :=
  { base_inv with lcdOff := by decide, lcdMode := by decide }

/-- `NOP` gives a next state, so the frames of single instructions have a case. -/
theorem nop_next : exec .nop base = .next (base.took 4) := rfl

theorem witness_DecodeOfEncode : WellFormed (.unmapped 0xD3) = true ∧ WellFormed (.ld_mnn_sp 0xFFFF) = true ∧
    WellFormed (.bit_7_mhl) = true := by decide

theorem witness_EncodeOfDecode : decode [0x08, 0xFF, 0xFF, 0x76] = .ok (.ld_mnn_sp 0xFFFF) [0x76] ∧
    decode [0xFD] = .ok (.unmapped 0xFD) [] := by decide

/-- Three bytes at PC, read one after the other, decode to a whole instruction; running, and woken from HALT with IME = 0. -/
theorem witness_StepRunsDecodedInstruction :
    let s := placeBytes 0xC000 [0x01, 0x34, 0x12] base
    readsBytes s s.pc [0x01, 0x34, 0x12] ∧ decode [0x01, 0x34, 0x12] = .ok (.ld_bc_nn 0x1234) [] ∧
    s.mode = .running ∧ ¬(s.ime = true ∧ pending s ≠ 0) ∧ s.haltBug = false ∧
    (let h := { s with mode := .halted, ie := 0x01, iflag := 0x01 }
     h.mode = .halted ∧ pending h ≠ 0 ∧ ¬(h.ime = true ∧ pending h ≠ 0)) := by
  refine ⟨⟨?_, ?_, ?_, trivial⟩, ?_⟩ <;> decide +kernel

theorem witness_HaltBugRepeatsOneByte :
    let s := { placeBytes 0xC000 [0x3E] base with haltBug := true }
    readByte s s.pc = 0x3E ∧ readsBytes s.countRead s.pc [0x3E] ∧ decode [0x3E, 0x3E] = .ok (.ld_a_n 0x3E) [] ∧
    s.mode = .running ∧ ¬(s.ime = true ∧ pending s ≠ 0) ∧ s.haltBug = true := by
  refine ⟨?_, ⟨?_, trivial⟩, ?_⟩ <;> decide +kernel

/-- The same of an unmapped byte, which has no further bytes. -/
theorem witness_HaltBugRepeatsOneByte_unmapped :
    let s := { placeBytes 0xC000 [0xDD] base with haltBug := true }
    readByte s s.pc = 0xDD ∧ readsBytes s.countRead s.pc [] ∧ decode [0xDD] = .ok (.unmapped 0xDD) [] ∧
    s.mode = .running ∧ ¬(s.ime = true ∧ pending s ≠ 0) ∧ s.haltBug = true := by
  refine ⟨?_, trivial, ?_⟩ <;> decide +kernel

/-- The first and the last unmapped byte, with and without `halt_bug`, running and woken from HALT with IME = 0. -/
theorem witness_UnmappedOpcodesFault :
    (let s := { placeBytes 0xC000 [0xD3] base with haltBug := true }
     readByte s s.pc = 0xD3 ∧ decode [0xD3] = .ok (.unmapped 0xD3) [] ∧ s.mode = .running ∧
     ¬(s.ime = true ∧ pending s ≠ 0)) ∧
    (let s := { placeBytes 0xC000 [0xFD] base with mode := .halted, ie := 0x01, iflag := 0x01 }
     readByte s s.pc = 0xFD ∧ decode [0xFD] = .ok (.unmapped 0xFD) [] ∧ s.mode = .halted ∧ pending s ≠ 0 ∧
     ¬(s.ime = true ∧ pending s ≠ 0)) := by
  dsimp only
  decide +kernel

/-- The lowest and the highest source, running and halted. -/
theorem witness_StepDispatchesHighestPriority :
    (let s := { base with ime := true, ie := 0x1F, iflag := 0x1F }
     s.mode = .running ∧ s.ime = true ∧ s.ie.getLsbD 0 = true ∧ s.iflag.getLsbD 0 = true) ∧
    (let s := { base with ime := true, ie := 0x10, iflag := 0x1F, mode := .halted }
     s.mode = .halted ∧ s.ime = true ∧ s.ie.getLsbD 4 = true ∧ s.iflag.getLsbD 4 = true ∧
     ∀ j, j < 4 → ¬(s.ie.getLsbD j = true ∧ s.iflag.getLsbD j = true)) := by
  refine ⟨by decide, ?_⟩
  dsimp only
  decide +kernel

theorem witness_HaltedStepOnlyWaits :
    let s := { base with mode := .halted, ie := 0xFF, ime := true }
    s.mode = .halted ∧ ∀ k, k < 5 → ¬(s.ie.getLsbD k = true ∧ s.iflag.getLsbD k = true) := by decide +kernel

theorem witness_StoppedStepWaitsForWake :
    ({ base with mode := .stopped } : State).mode = .stopped ∧ ({ base with mode := .stopped } : State).serial.sc7 = false := by
  decide

/-- A step that faults, and one that is refused. -/
theorem witness_StepStopsOnlyWhereSaid :
    step { base with mode := .faulted } = .fault .faulted ∧
    (let s := { placeBytes 0xC000 [0x76] base with ie := 0x01, iflag := 0x01, cfg := { base.cfg with haltPolicy := .refuse } }
     (fetch s).1 = .halt ∧ s.ime = false ∧ s.eiPending = false ∧ pending s ≠ 0 ∧ stepped s = none) := by
  refine ⟨rfl, ?_⟩
  dsimp only
  decide +kernel

/-- HALT in each case that completes. -/
theorem witness_EveryInstructionCompletes :
    ({ base with ime := true } : State).ime = true ∧ pending base = 0 ∧ base.cfg.haltPolicy ≠ .refuse := by decide

theorem witness_StepKeepsInvariant : State.Inv base ∧ ∃ t, step base = .next t :=
  ⟨base_inv, stepped_next base (by decide +kernel)⟩

/-- A configuration with MBC1, RAM and a boot image, and one with neither. -/
theorem witness_ResetMeetsInvariant : configValid Config.default = true ∧
    configValid { Config.default with
      cart := { rom := [(0, 0x01)], romBanks := 128, mapper := .mbc1, ramBanks := 4, ramInit := [(32767, 0x01)] },
      boot := some [(255, 0x01)] } = true := by decide +kernel

/-- DI and RETI change IME, EI leaves it; a step that changes IME by a dispatch. -/
theorem witness_ImeChangesOnlyByNamedEvents :
    (∃ t, exec .di base = .next t) ∧ (∃ t, exec .ei base = .next t) ∧ (∃ t, exec .reti base = .next t) ∧
    (stepped { base with ime := true, ie := 0x01, iflag := 0x01 }).map (fun t => t.ime) = some false := by
  exact ⟨⟨_, rfl⟩, ⟨_, rfl⟩, ⟨_, rfl⟩, by decide +kernel⟩

theorem witness_FlagsChangeOnlyByNamedInstructions : (∃ t, exec .nop base = .next t) ∧ (∃ t, exec .cpl base = .next t) ∧
    (∃ t, exec (Form.aluImm .and 0) base = .next t) := ⟨⟨_, rfl⟩, ⟨_, rfl⟩, ⟨_, rfl⟩⟩

theorem witness_PcAndSpChangeOnlyByNamedInstructions : (∃ t, exec .nop base = .next t) ∧ (∃ t, exec .ret base = .next t) :=
  ⟨⟨_, rfl⟩, ⟨_, rfl⟩⟩

/-- A store to work RAM leaves the byte above it; STOP leaves every address but 0xFF04. -/
theorem witness_StoresReachOnlyTheirTargets :
    State.Inv base ∧ (∃ t, exec .ld_mhl_b base = .next t) ∧
    storeTargets .ld_mhl_b (withHl 0xDFFF base) = [0xDFFF] ∧ storeReaches 0xDFFF 0xE000 = false ∧
    storeReaches 0xDDFF 0xFDFF = true ∧ storeTargets (.stop 0) base = [] := by
  exact ⟨base_inv, ⟨_, rfl⟩, by decide +kernel, by decide +kernel, by decide +kernel, rfl⟩

theorem witness_ConfigurationAndOverlayPersist : (∃ t, step base = .next t) ∧ base.bootActive = false :=
  ⟨stepped_next base (by decide +kernel), rfl⟩

theorem witness_ModeChangesOnlyByNamedInstructions : (∃ t, exec .halt base = .next t) ∧ (∃ t, exec (.stop 0) base = .next t) :=
  ⟨⟨_, rfl⟩, ⟨_, rfl⟩⟩

theorem witness_PeripheralsKeepCpuState : ({ base with mode := .faulted } : State).mode = .faulted ∧
    ({ base with iflag := 0x10 } : State).iflag.getLsbD 4 = true ∧ base.mode ≠ .faulted := by decide

theorem witness_PostBootReset : Config.default.boot = none := rfl

theorem witness_PowerOnReset : ({ Config.default with boot := some [(0, 0x31)] } : Config).boot = some [(0, 0x31)] := rfl

theorem sp_inv (s : State) (v : Word) (h : s.Inv) : State.Inv { s with sp := v } := { h with }

/-- Both stack bytes plain: at the top of high RAM, at the bottom of video RAM, and across the echo's lower end. -/
theorem witness_PushThenPopRestores :
    (∀ sp : Word, State.Inv { base with sp := sp }) ∧
    ([0xFFFF, 0x8002, 0xE001, 0xFEA0] : List Word).all (fun sp => plainRam (sp - 1) && plainRam (sp - 2)) = true := by
  exact ⟨fun sp => sp_inv base sp base_inv, by decide +kernel⟩

/-- A cell with itself, with its echo, and with its neighbour. -/
theorem witness_PlainStoreReadsBack : State.Inv base ∧
    ([0x8000, 0x9FFF, 0xC000, 0xDDFF, 0xE000, 0xFDFF, 0xFE00, 0xFE9F, 0xFF80, 0xFFFE] : List Word).all plainRam = true ∧
    storageCell 0xFDFF = storageCell 0xDDFF ∧ storageCell 0xFE00 ≠ storageCell 0xDE00 := by
  exact ⟨base_inv, by decide +kernel, by decide +kernel, by decide +kernel⟩

theorem witness_DecimalAdjust : base.fN = false ∧ ({ base with fN := true } : State).fN = true := by decide

theorem witness_DecimalArithmetic : isBcd ({ base with a := 0x99, fC := true } : State).a ∧ isBcd 0x00 ∧ isBcd 0x99 := by
  unfold isBcd; decide

/-- One state for each case of HALT, the third under each policy. -/
theorem witness_HaltCases :
    ({ base with ime := true } : State).ime = true ∧
    (base.ime = false ∧ ∀ k, k < 5 → ¬(base.ie.getLsbD k = true ∧ base.iflag.getLsbD k = true)) ∧
    (∀ p ∈ [HaltPolicy.refuse, .fallthrough, .bug],
      let s := { base with ie := 0x10, iflag := 0x10, cfg := { base.cfg with haltPolicy := p } }
      s.ime = false ∧ s.ie.getLsbD 4 = true ∧ s.iflag.getLsbD 4 = true ∧ s.cfg.haltPolicy = p) := by
  refine ⟨by decide, by decide +kernel, ?_⟩
  decide +kernel

/-- The clauses of the address decoder, at the ends of their ranges: each address lies in one range only. -/
theorem witness_MemoryMap :
    (booting.bootActive = true ∧ booting.cfg.boot = some [(0, 0x31)] ∧ (0x00FF : Word).toNat ≤ 0x00FF) ∧
    ([0x0000, 0x3FFF, 0x4000, 0x7FFF, 0x8000, 0x9FFF, 0xA000, 0xBFFF, 0xC000, 0xDFFF, 0xE000, 0xFDFF, 0xFE00, 0xFE9F,
      0xFEA0, 0xFEFF, 0xFF80, 0xFFFE, 0xFFFF] : List Word).map region =
      [.romLow 0, .romLow 0x3FFF, .romHigh 0, .romHigh 0x3FFF, .vram 0, .vram 0x1FFF, .cartRam 0, .cartRam 0x1FFF,
       .wram 0, .wram 0x1FFF, .wram 0, .wram 0x1DFF, .oam 0, .oam 0x9F, .unusable, .unusable, .hram 0, .hram 0x7E, .ie] ∧
    region 0xFF00 = .io .p1 ∧ region 0xFF7F = .io .unmapped ∧
    byteAt base 0xFFFF = some 0x00 ∧ byteAt base 0xFEA0 = none := by decide +kernel

/-- The ends of the sound range and of the unmapped ones. -/
theorem witness_IoRegistersReadAndWrite :
    [byteAt base 0xFF10, byteAt base 0xFF3F, byteAt base 0xFF03, byteAt base 0xFF08, byteAt base 0xFF0E, byteAt base 0xFF4C,
     byteAt base 0xFF4F, byteAt base 0xFF51, byteAt base 0xFF7F] =
    [none, none, some 0xFF, some 0xFF, some 0xFF, some 0xFF, some 0xFF, some 0xFF, some 0xFF] := by decide +kernel

/-- Both mappers, and the ends of the four write ranges. -/
theorem witness_MapperSelectsBanks : base.cfg.cart.mapper = .none ∧ (mbc1 8 4).cfg.cart.mapper = .mbc1 ∧
    (writeByte 0x1FFF 0x0A (mbc1 8 4)).mapper.ramEnable = true ∧ (writeByte 0x3FFF 0x1F (mbc1 8 4)).mapper.bank1 = 31 ∧
    (writeByte 0x5FFF 0x03 (mbc1 8 4)).mapper.bank2 = 3 ∧ (writeByte 0x7FFF 0x01 (mbc1 8 4)).mapper.bankMode = true := by
  decide +kernel

theorem witness_OamDmaCopiesOnePage : State.Inv base ∧ 0 < 160 ∧ 159 < 160 := ⟨base_inv, by decide, by decide⟩

/-- Each clause: before the divisor, a count without and with overflow. -/
theorem witness_TimerCountsOncePerDivisor :
    ticking.timer.tac.getLsbD 2 = true ∧ ticking.timer.sub = 0 ∧ ticking.timer.reloadPending = false ∧
    15 < timaDivisor ticking.timer.tac ∧ ticking.timer.tima = 0xFF ∧
    ({ ticking with timer := { ticking.timer with tima := 0xFE } } : State).timer.tima ≠ 0xFF := by decide

/-- The LCD off and on, and a value of each sign of bit 7 to write. -/
theorem witness_LcdEnableGatesLineMachine : base.ppu.lcdc.getLsbD 7 = false ∧ State.Inv base ∧
    litBase.ppu.lcdc.getLsbD 7 = true ∧ (0x7F : Byte).getLsbD 7 = false ∧ (0x80 : Byte).getLsbD 7 = true :=
  ⟨by decide, base_inv, by decide, by decide, by decide⟩

/-- A tick inside a line, at the end of a visible line, and into line 144. -/
theorem witness_PpuTickMovesAndRaises :
    (lineAt 0 0 .oamScan).ppu.lcdc.getLsbD 7 = true ∧ (lineAt 0 0 .oamScan).ppu.dot + 1 ≠ 456 ∧
    (lineAt 142 455 .hblank).ppu.dot + 1 = 456 ∧ (ppuTick (lineAt 142 455 .hblank)).ppu.ly ≤ 143 ∧
    ¬(ppuTick (lineAt 143 455 .hblank)).ppu.ly ≤ 143 := by decide +kernel

theorem witness_FramePositionAdvances : State.Inv litBase ∧ litBase.ppu.lcdc.getLsbD 7 = true := ⟨litBase_inv, by decide⟩

theorem vblankStart_inv : State.Inv (lineAt 144 0 .vblank) :=
  { litBase_inv with ly := by decide, dot := by decide, lcdOff := by decide, lcdMode := by decide }

/-- The last count before line 144, from the first position of a frame and from the first of the v-blank. -/
theorem witness_OneVBlankPerFrame : State.Inv litBase ∧ litBase.ppu.lcdc.getLsbD 7 = true ∧
    framePosition litBase.ppu + 65663 < (if framePosition litBase.ppu < 65664 then 65664 else 70224 + 65664) ∧
    State.Inv (lineAt 144 0 .vblank) ∧ (lineAt 144 0 .vblank).ppu.lcdc.getLsbD 7 = true ∧
    framePosition (lineAt 144 0 .vblank).ppu + 70223 <
      (if framePosition (lineAt 144 0 .vblank).ppu < 65664 then 65664 else 70224 + 65664) :=
  ⟨litBase_inv, by decide, by decide, vblankStart_inv, by decide, by decide⟩

theorem witness_JoypadReadAndPoll : base.cfg.inputPollPeriod > 0 ∧
    0 < (base.joypad.inputTimer + 70224) / base.cfg.inputPollPeriod := by decide

/-- Both answers of the oracle are covered by the two clauses. -/
theorem witness_SerialTransfer : base.serial.sc7 = false ∧
    ({ base with serial := { base.serial with sc7 := true } } : State).serial.sc7 = true ∧
    (Config.serialIn 0 = none ∨ ∃ b, Config.serialIn 0 = some b) := by
  refine ⟨by decide, by decide, ?_⟩
  cases Config.serialIn 0 with
  | none => exact .inl rfl
  | some b => exact .inr ⟨b, rfl⟩

/-- A 32 KiB image of zeros is a cartridge without mapper and RAM. -/
theorem blank_loads (rom : List Byte) (hl : rom.length = 32768) (h0 : ∀ k, rom.getD k 0 = 0) :
    ∃ cart, loadCartridge rom [] = .ok cart := by
  have h : ∀ k, headerByte rom k = 0 := by
    intro k
    unfold headerByte
    rw [h0]
    rfl
  unfold loadCartridge
  rw [h, h, h]
  simp [mapperOfCode, romBanksOfCode, ramBanksOfCode, mapperAllows, hl]

/-- There is such an image. -/
theorem blank_exists : ∃ rom : List Byte, rom.length = 32768 ∧ ∀ k, rom.getD k 0 = 0 := by
  have key : ∀ n : Nat, ∃ rom : List Byte, rom.length = n ∧ ∀ k, rom.getD k 0 = 0 := by
    intro n
    induction n with
    | zero => exact ⟨[], rfl, fun _ => rfl⟩
    | succ n ih =>
      obtain ⟨rom, hl, h0⟩ := ih
      refine ⟨0 :: rom, by rw [List.length_cons, hl], fun k => ?_⟩
      cases k with
      | zero => rfl
      | succ k => exact h0 k
  exact key 32768

theorem witness_LoadTimeRefusals :
    (∃ rom s, startSession rom [] none .bug 70224 = .ok s) ∧
    ((List.replicate 0x148 (0x04 : Byte)).getD 0x0147 0).toNat > 3 ∧
    (∃ rom cart, loadCartridge rom [] = .ok cart) ∧ ([0x31] : List Byte).length ≠ 256 := by
  obtain ⟨rom, hl, h0⟩ := blank_exists
  obtain ⟨cart, h⟩ := blank_loads rom hl h0
  refine ⟨⟨rom, ?_⟩, by decide +kernel, ⟨rom, cart, h⟩, by decide⟩
  unfold startSession
  rw [h]
  exact ⟨_, rfl⟩

end Sys2Proof.Tests
end

