-- ==== Sys2Proof/Proofs/Reset.lean ====
section
/-! SUPPORT. Reset without a boot image (10_state.md R31): the state it is, the register pairs it holds, and the I/O registers as the
CPU reads them there. -/

namespace Sys2Proof.Machine

/-- An address of the I/O region shows what its register reads as (20_memory.md R56). -/
theorem byteAt_of_region_io {s : State} {a : Word} {r : IoReg} (h : region a = .io r) : byteAt s a = ioRead s r := by
  simp only [byteAt, h]

/-- Without a boot image, reset is the post-boot state. -/
theorem resetWith_of_boot_none {cfg : Config} (h : cfg.boot = none) : State.resetWith cfg = State.postBoot cfg := by
  simp only [State.resetWith, h]

/-- The pairs as the views of R11 and R15 assemble them from the seven cells and the four flags. -/
theorem postBoot_pairs (cfg : Config) :
    (State.postBoot cfg).af = 0x01B0 ∧ (State.postBoot cfg).bc = 0x0013 ∧
    (State.postBoot cfg).de = 0x00D8 ∧ (State.postBoot cfg).hl = 0x014D := by
  have hf : (State.postBoot cfg).f = 0xB0 := by simp [State.f, State.postBoot]
  have haf : word 0x01 0xB0 = 0x01B0 := by decide
  have hbc : word 0x00 0x13 = 0x0013 := by decide
  have hde : word 0x00 0xD8 = 0x00D8 := by decide
  have hhl : word 0x01 0x4D = 0x014D := by decide
  exact ⟨by rw [State.af, hf]; exact haf, hbc, hde, hhl⟩

/-- The registers of which a read shows more than is stored: P1, SC, DIV, TAC and IF (20_memory.md R56). -/
theorem postBoot_ioBytes (cfg : Config) :
    byteAt (State.postBoot cfg) 0xFF00 = some 0xCF ∧ byteAt (State.postBoot cfg) 0xFF02 = some 0x7E ∧
    byteAt (State.postBoot cfg) 0xFF04 = some 0xAB ∧ byteAt (State.postBoot cfg) 0xFF07 = some 0xF8 ∧
    byteAt (State.postBoot cfg) 0xFF0F = some 0xE1 := by
  have hp1 : region 0xFF00 = .io .p1 := by decide
  have hsc : region 0xFF02 = .io .sc := by decide
  have hdiv : region 0xFF04 = .io .div := by decide
  have htac : region 0xFF07 = .io .tac := by decide
  have hif : region 0xFF0F = .io .iflag := by decide
  rw [byteAt_of_region_io hp1, byteAt_of_region_io hsc, byteAt_of_region_io hdiv, byteAt_of_region_io htac,
    byteAt_of_region_io hif]
  simp [ioRead, State.postBoot, p1Read, p1Line, Buttons.released, scRead, divRead]

/-- Settles O20: reset is `State.postBoot`; its pairs, its reads and the bounds of the drawn `m3len` are lemmas, and every other
clause is a field of the record. -/
theorem postBootReset : Obligations.PostBootReset := by
  intro cfg hboot
  rw [resetWith_of_boot_none hboot]
  obtain ⟨haf, hbc, hde, hhl⟩ := postBoot_pairs cfg
  obtain ⟨hp1, hsc, hdiv, htac, hif⟩ := postBoot_ioBytes cfg
  obtain ⟨hlow, hhigh⟩ := mode3Len_range 0 0
  exact ⟨haf, hbc, hde, hhl, rfl, rfl, rfl, rfl, rfl, rfl, rfl, rfl, hif, rfl, hdiv, htac,
    rfl, rfl, rfl, rfl, rfl, rfl, rfl, rfl, rfl, rfl, hlow, hhigh, rfl, rfl, rfl, hp1, rfl, hsc, rfl, rfl, rfl⟩

end Sys2Proof.Machine
end

