-- ==== Sys2Proof/Proofs/Mapper.lean ====
section
/-! SUPPORT. The cartridge mappers (20_memory.md R52, R70 to R75): what a write below 0x8000 does under each mapper, range by range,
and which banks the windows show. -/

namespace Sys2Proof.Machine

/-- A field as the arithmetic of R7: shift down by `lo`, keep `n` bits. -/
theorem field_toNat (lo n : Nat) (v : Byte) : (field lo n v).toNat = v.toNat / 2 ^ lo % 2 ^ n := by
  rw [field, BitVec.extractLsb'_toNat, Nat.shiftRight_eq_div_pow]

theorem field_zero_toNat (n : Nat) (v : Byte) : (field 0 n v).toNat = v.toNat % 2 ^ n := by
  rw [field_toNat, pow_zero, Nat.div_one]

theorem field_zero_eq_ofNat (n : Nat) (v : Byte) : field 0 n v = BitVec.ofNat n (v.toNat % 2 ^ n) := by
  rw [← field_zero_toNat, BitVec.ofNat_toNat, BitVec.setWidth_eq]

theorem field_zero_eq_iff {n : Nat} {v : Byte} {x : BitVec n} : field 0 n v = x ↔ v.toNat % 2 ^ n = x.toNat := by
  rw [← BitVec.toNat_inj, field_zero_toNat]

/-! Mapper NONE (R71): no register is written, and the windows show fixed banks. -/

section
variable {s : State} (h : s.cfg.cart.mapper = .none)
include h

theorem mapperWrite_of_none (n : Nat) (v : Byte) : mapperWrite n v s = s := by simp only [mapperWrite, h]

theorem romLowBank_of_none : romLowBank s = 0 := by simp only [romLowBank, h]

theorem romHighBank_of_none : romHighBank s = 1 := by simp only [romHighBank, h]

theorem ramBank_of_none : ramBank s = 0 := by simp only [ramBank, h]

theorem cartRamEnabled_of_none : cartRamEnabled s = decide (s.cfg.cart.ramBanks > 0) := by
  simp only [cartRamEnabled, h, Bool.and_true]

end

/-! Mapper MBC1: one register for each quarter of the ROM space (R73), and the banks they select (R74, R75). -/

section
variable {s : State} (h : s.cfg.cart.mapper = .mbc1) {n : Nat} (v : Byte)
include h

/-- The low nibble 0xA enables cartridge RAM, any other disables it. -/
theorem mapperWrite_ramEnable (hn : n ≤ 0x1FFF) :
    mapperWrite n v s = { s with mapper := { s.mapper with ramEnable := decide (v.toNat % 16 = 0xA) } } := by
  have henable : (field 0 4 v == 0xA) = decide (v.toNat % 16 = 0xA) := decide_eq_decide.mpr field_zero_eq_iff
  simp only [mapperWrite, h, if_pos hn, henable]

/-- Bank number 0 cannot be selected: 1 is stored for it. -/
theorem mapperWrite_bank1 (hlo : 0x2000 ≤ n) (hhi : n ≤ 0x3FFF) :
    mapperWrite n v s = { s with mapper := { s.mapper with
      bank1 := if v.toNat % 32 = 0 then 1 else BitVec.ofNat 5 (v.toNat % 32) } } := by
  have h1 : ¬n ≤ 0x1FFF := by omega
  have hzero : field 0 5 v = 0 ↔ v.toNat % 32 = 0 := field_zero_eq_iff
  have hbits : field 0 5 v = BitVec.ofNat 5 (v.toNat % 32) := field_zero_eq_ofNat 5 v
  simp only [mapperWrite, h, if_neg h1, if_pos hhi, hzero]
  rw [hbits]

theorem mapperWrite_bank2 (hlo : 0x4000 ≤ n) (hhi : n ≤ 0x5FFF) :
    mapperWrite n v s = { s with mapper := { s.mapper with bank2 := BitVec.ofNat 2 (v.toNat % 4) } } := by
  have h1 : ¬n ≤ 0x1FFF := by omega
  have h2 : ¬n ≤ 0x3FFF := by omega
  have hbits : field 0 2 v = BitVec.ofNat 2 (v.toNat % 4) := field_zero_eq_ofNat 2 v
  simp only [mapperWrite, h, if_neg h1, if_neg h2, if_pos hhi, hbits]

/-- Needs no upper bound: this is the last branch of R73. -/
theorem mapperWrite_bankMode (hlo : 0x6000 ≤ n) :
    mapperWrite n v s = { s with mapper := { s.mapper with bankMode := decide (v.toNat % 2 = 1) } } := by
  have h1 : ¬n ≤ 0x1FFF := by omega
  have h2 : ¬n ≤ 0x3FFF := by omega
  have h3 : ¬n ≤ 0x5FFF := by omega
  have hbit : v.getLsbD 0 = decide (v.toNat % 2 = 1) := Nat.testBit_zero v.toNat
  simp only [mapperWrite, h, if_neg h1, if_neg h2, if_neg h3, hbit]

theorem romHighBank_of_mbc1 :
    romHighBank s = (s.mapper.bank2.toNat * 32 + s.mapper.bank1.toNat) % s.cfg.cart.romBanks := by
  simp only [romHighBank, h]

theorem romLowBank_of_mbc1 :
    romLowBank s = if s.mapper.bankMode then s.mapper.bank2.toNat * 32 % s.cfg.cart.romBanks else 0 := by
  simp only [romLowBank, h]

theorem ramBank_of_mbc1 :
    ramBank s = if s.mapper.bankMode then s.mapper.bank2.toNat % s.cfg.cart.ramBanks else 0 := by
  simp only [ramBank, h]

theorem cartRamEnabled_of_mbc1 :
    cartRamEnabled s = (s.mapper.ramEnable && decide (s.cfg.cart.ramBanks > 0)) := by
  simp only [cartRamEnabled, h, Bool.and_comm]

end

/-- Settles O50: one equation for each mapper, write range and bank function. -/
theorem mapperSelectsBanks : Obligations.MapperSelectsBanks := by
  constructor
  case left =>
    intro s n v h
    exact ⟨mapperWrite_of_none h n v, romLowBank_of_none h, romHighBank_of_none h, ramBank_of_none h,
      cartRamEnabled_of_none h⟩
  case right =>
    intro s n v h
    exact ⟨mapperWrite_ramEnable h v, mapperWrite_bank1 h v, mapperWrite_bank2 h v,
      fun hlo _ => mapperWrite_bankMode h v hlo, romHighBank_of_mbc1 h, romLowBank_of_mbc1 h, ramBank_of_mbc1 h,
      cartRamEnabled_of_mbc1 h⟩

end Sys2Proof.Machine
end

