-- ==== Sys2Proof/Proofs/Encoding.lean ====
section
/-! SUPPORT. What the decoder does with one instruction's bytes: the fields of an opcode byte, the operand table against the
operands' indices, and the bytes taken by the length of the format (30_encoding.md R90 to R98). -/

namespace Sys2Proof

/-! The three fields of an opcode byte (R91). -/

section
variable {x y z : Nat} (hx : x < 4) (hy : y < 8) (hz : z < 8)
include hx hy hz

theorem opcode_toNat : (opcode x y z).toNat = x * 64 + y * 8 + z := by
  rw [opcode, BitVec.toNat_ofNat]
  omega

@[simp] theorem opcode_field_x : (opcode x y z).toNat / 64 = x := by
  rw [opcode_toNat hx hy hz]
  omega

@[simp] theorem opcode_field_y : (opcode x y z).toNat / 8 % 8 = y := by
  rw [opcode_toNat hx hy hz]
  omega

@[simp] theorem opcode_field_z : (opcode x y z).toNat % 8 = z := by
  rw [opcode_toNat hx hy hz]
  omega

end

/-! The table `r8` undoes the register's index (R94). -/

@[simp] theorem regIndex_lt (x : Reg8) : regIndex x < 8 := by cases x <;> decide

@[simp] theorem r8_regIndex (x : Reg8) : r8 (regIndex x) = .reg x := by cases x <;> rfl

@[simp] theorem r8_six : r8 6 = .mhl := rfl

/-! The decoder by the length of the format (R92): it takes the instruction's bytes and leaves the rest. -/

theorem decode_of_length_one {op : Byte} (h : opcodeLength op = 1) (rest : List Byte) :
    decode (op :: rest) = .ok (decodeOpcode op 0 0) rest := by simp only [decode, h]

theorem decode_of_length_two {op : Byte} (h : opcodeLength op = 2) (b1 : Byte) (rest : List Byte) :
    decode (op :: b1 :: rest) = .ok (decodeOpcode op b1 0) rest := by simp only [decode, h]

theorem decode_of_length_three {op : Byte} (h : opcodeLength op = 3) (b1 b2 : Byte) (rest : List Byte) :
    decode (op :: b1 :: b2 :: rest) = .ok (decodeOpcode op b1 b2) rest := by simp only [decode, h]

/-- Every opcode of the rows x = 1 is a whole instruction (R98). -/
theorem decode_x1 {y z : Nat} (hy : y < 8) (hz : z < 8) (rest : List Byte) :
    decode (opcode 1 y z :: rest) = .ok (decodeX1 (opcode 1 y z)) rest := by
  have hlen : opcodeLength (opcode 1 y z) = 1 := by simp [opcodeLength, hy, hz]
  simp [decode_of_length_one hlen, decodeOpcode, hy, hz]

end Sys2Proof
end

