-- ==== Sys2Proof/Proofs/Load8.lean ====
section
/-! SUPPORT. The 8-bit loads and stores (40_load8.md R110 to R128) and `LD (nn),SP` (41_load16_stack.md R141): the encodings of the
register-indexed families, and the shared loads and stores as updates of the state's fields. -/

namespace Sys2Proof.Machine

/-! The encodings of the families: `r8` is the table of both register fields (30_encoding.md R94). -/

theorem decode_ldRegReg (x y : Reg8) (rest : List Byte) :
    decode (opcode 1 (regIndex x) (regIndex y) :: rest) = .ok (Form.ldRegReg x y) rest := by
  simp [decode_x1, decodeX1]

theorem decode_ldRegMhl (x : Reg8) (rest : List Byte) :
    decode (opcode 1 (regIndex x) 6 :: rest) = .ok (Form.ldRegMhl x) rest := by
  simp [decode_x1, decodeX1]

theorem decode_ldMhlReg (x : Reg8) (rest : List Byte) :
    decode (opcode 1 6 (regIndex x) :: rest) = .ok (Form.ldMhlReg x) rest := by
  simp [decode_x1, decodeX1]

theorem decode_ldRegImm (x : Reg8) (n : Byte) (rest : List Byte) :
    decode (opcode 0 (regIndex x) 6 :: n :: rest) = .ok (Form.ldRegImm x n) rest := by
  have hlen : opcodeLength (opcode 0 (regIndex x) 6) = 2 := by simp [opcodeLength]
  simp [decode_of_length_two hlen, decodeOpcode, decodeX0]

/-! The shared loads and stores, field by field. -/

/-- An address of the high page as 40_load8.md R121 to R124 write it. -/
theorem highPage_eq (n : Byte) : highPage n = 0xFF00 + n.setWidth 16 := by
  apply BitVec.eq_of_toNat_eq
  simp only [highPage, word_toNat, BitVec.toNat_add, BitVec.toNat_setWidth, BitVec.reduceToNat]
  omega

theorem loadRegMem_a (a : Word) (cyc : Nat) (s : State) :
    loadRegMem .a a cyc s = { s.countRead with a := readByte s a, cycles := cyc } := rfl

theorem loadRegMem_highPage (n : Byte) (cyc : Nat) (s : State) :
    loadRegMem .a (highPage n) cyc s =
      { s.countRead with a := readByte s (0xFF00 + n.setWidth 16), cycles := cyc } := by
  rw [loadRegMem_a, highPage_eq]

/-- HL moves by what it held before the load. -/
theorem loadAMove_eq (delta : Word) (s : State) :
    loadAMove delta s = { s.countRead with
      a := readByte s s.hl, h := hiByte (s.hl + delta), l := loByte (s.hl + delta), cycles := 8 } := rfl

theorem loadAMove_neg_one (s : State) :
    loadAMove (-1) s = { s.countRead with
      a := readByte s s.hl, h := hiByte (s.hl - 1), l := loByte (s.hl - 1), cycles := 8 } := by
  rw [loadAMove_eq, BitVec.sub_eq_add_neg]

theorem storeMem_eq (a : Word) (v : Byte) (cyc : Nat) (s : State) :
    storeMem a v cyc s = { writeByte a v s with cycles := cyc } := rfl

theorem storeMem_highPage (n v : Byte) (cyc : Nat) (s : State) :
    storeMem (highPage n) v cyc s = { writeByte (0xFF00 + n.setWidth 16) v s with cycles := cyc } := by
  rw [storeMem_eq, highPage_eq]

/-- HL moves by what it held before the store. -/
theorem storeAMove_eq (delta : Word) (s : State) :
    storeAMove delta s = { writeByte s.hl s.a s with
      h := hiByte (s.hl + delta), l := loByte (s.hl + delta), cycles := 8 } := rfl

theorem storeAMove_neg_one (s : State) :
    storeAMove (-1) s = { writeByte s.hl s.a s with
      h := hiByte (s.hl - 1), l := loByte (s.hl - 1), cycles := 8 } := by
  rw [storeAMove_eq, BitVec.sub_eq_add_neg]

/-- The low byte goes to the lower address, and first (41_load16_stack.md R141). -/
theorem writeWord_took (a v : Word) (cyc : Nat) (s : State) :
    (writeWord a v s).took cyc =
      { writeByte (a + 1) (hiByte v) (writeByte a (loByte v) s) with cycles := cyc } := rfl

/-- Settles O23: each family's encoding, and its one shared load. -/
theorem registerLoads : Obligations.RegisterLoads :=
  ⟨decode_ldRegReg, exec_ldRegReg, decode_ldRegImm, exec_ldRegImm⟩

/-- Settles O24: each encoding by the length of its format, each effect as the one shared load from memory. -/
theorem loadsFromMemory : Obligations.LoadsFromMemory :=
  ⟨decode_ldRegMhl, exec_ldRegMhl,
    decode_of_length_one rfl, fun s => congrArg Host.Outcome.next (loadRegMem_a s.bc 8 s),
    decode_of_length_one rfl, fun s => congrArg Host.Outcome.next (loadRegMem_a s.de 8 s),
    decode_of_length_three rfl, fun nn s => congrArg Host.Outcome.next (loadRegMem_a nn 16 s),
    decode_of_length_one rfl, fun s => congrArg Host.Outcome.next (loadRegMem_highPage s.c 8 s),
    decode_of_length_two rfl, fun n s => congrArg Host.Outcome.next (loadRegMem_highPage n 12 s),
    decode_of_length_one rfl, fun s => congrArg Host.Outcome.next (loadAMove_eq 1 s),
    decode_of_length_one rfl, fun s => congrArg Host.Outcome.next (loadAMove_neg_one s)⟩

/-- Settles O25: each encoding by the length of its format, each effect as the one shared store. -/
theorem storesToMemory : Obligations.StoresToMemory :=
  ⟨decode_ldMhlReg, exec_ldMhlReg,
    decode_of_length_two rfl, fun n s => congrArg Host.Outcome.next (storeMem_eq s.hl n 12 s),
    decode_of_length_one rfl, fun s => congrArg Host.Outcome.next (storeMem_eq s.bc s.a 8 s),
    decode_of_length_one rfl, fun s => congrArg Host.Outcome.next (storeMem_eq s.de s.a 8 s),
    decode_of_length_three rfl, fun nn s => congrArg Host.Outcome.next (storeMem_eq nn s.a 16 s),
    decode_of_length_one rfl, fun s => congrArg Host.Outcome.next (storeMem_highPage s.c s.a 8 s),
    decode_of_length_two rfl, fun n s => congrArg Host.Outcome.next (storeMem_highPage n s.a 12 s),
    decode_of_length_one rfl, fun s => congrArg Host.Outcome.next (storeAMove_eq 1 s),
    decode_of_length_one rfl, fun s => congrArg Host.Outcome.next (storeAMove_neg_one s),
    decode_of_length_three rfl, fun nn s => congrArg Host.Outcome.next (writeWord_took nn s.sp 20 s)⟩

end Sys2Proof.Machine
end

