-- ==== Sys2Proof/Proofs/Load16.lean ====
section
/-! SUPPORT. The 16-bit loads and the stack instructions (41_load16_stack.md R140, R142 to R145): the fields and operand tables of
their encodings, SP plus a signed displacement, and push and pop as updates of the state's fields. -/

namespace Sys2Proof

/-! The pair number of an opcode byte, and the bit below it (30_encoding.md R91). -/

section
variable {x y z : Nat} (hx : x < 4) (hy : y < 8) (hz : z < 8)
include hx hy hz

@[simp] theorem opcode_field_p : (opcode x y z).toNat / 16 % 4 = y / 2 := by
  rw [opcode_toNat hx hy hz]
  omega

@[simp] theorem opcode_field_q : (opcode x y z).toNat / 8 % 2 = y % 2 := by
  rw [opcode_toNat hx hy hz]
  omega

end

/-! The tables `rr` and `qq` undo the pairs' indices (R95). -/

@[simp] theorem pairIndex_mul_two_lt (p : Pair16) : pairIndex p * 2 < 8 := by cases p <;> decide

@[simp] theorem stackIndex_mul_two_lt (p : StackPair) : stackIndex p * 2 < 8 := by cases p <;> decide

@[simp] theorem rrPair_pairIndex (p : Pair16) : rrPair (pairIndex p) = p := by cases p <;> rfl

@[simp] theorem qqPair_stackIndex (p : StackPair) : qqPair (stackIndex p) = p := by cases p <;> rfl

/-- Stack instructions have no operand bytes: for every pair the middle field is even, so it is not the 1 of `CALL nn`. -/
theorem opcodeLength_stack (p : StackPair) :
    opcodeLength (opcode 3 (stackIndex p * 2) 1) = 1 ∧ opcodeLength (opcode 3 (stackIndex p * 2) 5) = 1 := by
  cases p <;> decide

end Sys2Proof

namespace Sys2Proof.Machine

/-! The encodings of the families. -/

theorem decode_ldPairImm (p : Pair16) (lo hi : Byte) (rest : List Byte) :
    decode (opcode 0 (pairIndex p * 2) 1 :: lo :: hi :: rest) = .ok (Form.ldPairImm p (word hi lo)) rest := by
  have hlen : opcodeLength (opcode 0 (pairIndex p * 2) 1) = 3 := by simp [opcodeLength]
  simp [decode_of_length_three hlen, decodeOpcode, decodeX0]

theorem decode_push (p : StackPair) (rest : List Byte) :
    decode (opcode 3 (stackIndex p * 2) 5 :: rest) = .ok (Form.push p) rest := by
  obtain ⟨-, hlen⟩ := opcodeLength_stack p
  simp [decode_of_length_one hlen, decodeOpcode, decodeX3]

theorem decode_pop (p : StackPair) (rest : List Byte) :
    decode (opcode 3 (stackIndex p * 2) 1 :: rest) = .ok (Form.pop p) rest := by
  obtain ⟨hlen, -⟩ := opcodeLength_stack p
  simp [decode_of_length_one hlen, decodeOpcode, decodeX3]

/-! The shared operations, field by field. -/

/-- Adding the sign-extended byte is adding its signed value, modulo 65536 (41_load16_stack.md R143). -/
theorem add_sext16 (v : Word) (e : Byte) : v + sext16 e = BitVec.ofInt 16 ((v.toNat : Int) + e.toInt) := by
  rw [BitVec.ofInt_add, BitVec.ofInt_natCast, BitVec.ofNat_toNat, BitVec.setWidth_eq]
  rfl

/-- The carries are those of SP's low byte and `e` taken unsigned; SP itself stays. -/
theorem loadHlSp_eq (e : Byte) (s : State) :
    let v := BitVec.ofInt 16 ((s.sp.toNat : Int) + e.toInt)
    loadHlSp e s = { s with
      h := hiByte v, l := loByte v, fZ := false, fN := false
      fH := decide (s.sp.toNat % 16 + e.toNat % 16 > 0x0F)
      fC := decide (s.sp.toNat % 256 + e.toNat > 0xFF), cycles := 12 } := by
  rw [← add_sext16]
  rfl

/-- SP moves first; then the high byte goes one below the old SP, and the low byte two below (10_state.md R18). -/
theorem push16_eq (v : Word) (s : State) :
    push16 v s = writeByte (s.sp - 2) (loByte v) (writeByte (s.sp - 1) (hiByte v) { s with sp := s.sp - 2 }) := by
  have hhigh : s.sp - 2 + 1 = s.sp - 1 := by bv_omega
  rw [push16, hhigh]

theorem pushPair_eq (p : StackPair) (s : State) :
    pushPair p s = { writeByte (s.sp - 2) (loByte (s.stackPair p)) (writeByte (s.sp - 1) (hiByte (s.stackPair p))
      { s with sp := s.sp - 2 }) with cycles := 16 } := by
  rw [pushPair, push16_eq]
  rfl

/-- Writing the pair and moving SP commute, since no pair of `qq` holds SP (R145). -/
theorem popPair_eq (p : StackPair) (s : State) :
    popPair p s = { s.countRead.countRead.setStackPair p (word (readByte s.countRead (s.sp + 1)) (readByte s s.sp)) with
      sp := s.sp + 2, cycles := 12 } := by cases p <;> rfl

/-- A pop into AF keeps bits 7 to 4 of the low byte as the flags (10_state.md R12). -/
theorem popPair_af (s : State) :
    popPair .af s = { s.countRead.countRead with
      a := readByte s.countRead (s.sp + 1)
      fZ := (readByte s s.sp).getLsbD 7, fN := (readByte s s.sp).getLsbD 6
      fH := (readByte s s.sp).getLsbD 5, fC := (readByte s s.sp).getLsbD 4
      sp := s.sp + 2, cycles := 12 } := by
  simp only [popPair_eq, State.setStackPair, hiByte_word, word_getLsbD_low, Nat.reduceLT]

/-- Settles O26: each encoding by the length of its format, each effect as the one shared load. -/
theorem pairLoads : Obligations.PairLoads :=
  ⟨decode_ldPairImm, exec_ldPairImm,
    decode_of_length_one rfl, fun _ => rfl,
    decode_of_length_two rfl, fun e s => congrArg Host.Outcome.next (loadHlSp_eq e s)⟩

/-- Settles O27: the families' encodings, each effect as the one shared push or pop, and the pairs' two cells. -/
theorem pushAndPop : Obligations.PushAndPop :=
  ⟨decode_push, fun p s => (exec_push p s).trans (congrArg Host.Outcome.next (pushPair_eq p s)),
    decode_pop, fun p s => (exec_pop p s).trans (congrArg Host.Outcome.next (popPair_eq p s)),
    fun s => congrArg Host.Outcome.next (popPair_af s),
    fun _ _ => ⟨rfl, rfl, rfl⟩⟩

end Sys2Proof.Machine
end

