-- ==== Sys2Proof/Proofs/Alu8.lean ====
section
/-! SUPPORT. The 8-bit arithmetic and logic instructions (42_alu8.md R150 to R166): the encodings of their families, the results
and flags of the shared outcomes as the spec's arithmetic writes them, and the shared operations as updates of the state's fields. -/

namespace Sys2Proof

/-! The table `alu` undoes the operation's index (30_encoding.md R97). -/

@[simp] theorem aluIndex_lt (op : AluOp) : aluIndex op < 8 := by cases op <;> decide

@[simp] theorem aluOf_aluIndex (op : AluOp) : aluOf (aluIndex op) = op := by cases op <;> rfl

/-- Every opcode of the rows x = 2 is a whole instruction (R98). -/
theorem decode_x2 {y z : Nat} (hy : y < 8) (hz : z < 8) (rest : List Byte) :
    decode (opcode 2 y z :: rest) = .ok (decodeX2 (opcode 2 y z)) rest := by
  have hlen : opcodeLength (opcode 2 y z) = 1 := by simp [opcodeLength, hy, hz]
  simp [decode_of_length_one hlen, decodeOpcode, hy, hz]

/-! Results on unbounded numbers, truncated at the end (42_alu8.md R150): when the truncated byte is zero. -/

theorem ofNat_beq_zero (k : Nat) : (BitVec.ofNat 8 k == 0) = decide (k % 256 = 0) := by
  rw [beq_eq_decide, decide_eq_decide, ← BitVec.toNat_inj, BitVec.toNat_ofNat]
  rfl

theorem ofInt_beq_zero (k : Int) : (BitVec.ofInt 8 k == 0) = decide (k % 256 = 0) := by
  rw [beq_eq_decide, decide_eq_decide, ← BitVec.toNat_inj, BitVec.toNat_ofInt]
  change (k % 256).toNat = 0 ↔ k % 256 = 0
  omega

end Sys2Proof

namespace Sys2Proof.Machine

/-! The encodings of the families. -/

theorem decode_aluReg (op : AluOp) (r : Reg8) (rest : List Byte) :
    decode (opcode 2 (aluIndex op) (regIndex r) :: rest) = .ok (Form.aluReg op r) rest := by
  simp [decode_x2, decodeX2]

theorem decode_aluMhl (op : AluOp) (rest : List Byte) :
    decode (opcode 2 (aluIndex op) 6 :: rest) = .ok (Form.aluMhl op) rest := by
  simp [decode_x2, decodeX2]

theorem decode_aluImm (op : AluOp) (n : Byte) (rest : List Byte) :
    decode (opcode 3 (aluIndex op) 6 :: n :: rest) = .ok (Form.aluImm op n) rest := by
  have hlen : opcodeLength (opcode 3 (aluIndex op) 6) = 2 := by simp [opcodeLength]
  simp [decode_of_length_two hlen, decodeOpcode, decodeX3]

/-- `INC` has no operand bytes, whatever the register. -/
theorem decode_incReg (r : Reg8) (rest : List Byte) :
    decode (opcode 0 (regIndex r) 4 :: rest) = .ok (Form.incReg r) rest := by
  have hlen : opcodeLength (opcode 0 (regIndex r) 4) = 1 := by simp [opcodeLength]
  simp [decode_of_length_one hlen, decodeOpcode, decodeX0]

/-- `DEC` has no operand bytes, whatever the register. -/
theorem decode_decReg (r : Reg8) (rest : List Byte) :
    decode (opcode 0 (regIndex r) 5 :: rest) = .ok (Form.decReg r) rest := by
  have hlen : opcodeLength (opcode 0 (regIndex r) 5) = 1 := by simp [opcodeLength]
  simp [decode_of_length_one hlen, decodeOpcode, decodeX0]

/-! The shared outcomes, in the spec's arithmetic. -/

theorem addOut_eq (x y : Byte) (ci : Bool) :
    addOut x y ci =
      { r := BitVec.ofNat 8 (x.toNat + y.toNat + ci.toNat)
        z := decide ((x.toNat + y.toNat + ci.toNat) % 256 = 0)
        n := false
        h := decide (x.toNat % 16 + y.toNat % 16 + ci.toNat > 0x0F)
        c := decide (x.toNat + y.toNat + ci.toNat > 0xFF) } := by
  rw [addOut, ofNat_beq_zero]

/-- The borrow is the sign of the difference. -/
theorem subOut_eq (x y : Byte) (ci : Bool) :
    subOut x y ci =
      { r := BitVec.ofInt 8 ((x.toNat : Int) - y.toNat - ci.toNat)
        z := decide (((x.toNat : Int) - y.toNat - ci.toNat) % 256 = 0)
        n := true
        h := decide (x.toNat % 16 < y.toNat % 16 + ci.toNat)
        c := decide ((x.toNat : Int) - y.toNat - ci.toNat < 0) } := by
  have hborrow : x.toNat < y.toNat + ci.toNat ↔ (x.toNat : Int) - y.toNat - ci.toNat < 0 := by omega
  rw [subOut, ofInt_beq_zero, decide_eq_decide.mpr hborrow]

/-- Without a borrow going in, the flags compare the two bytes (R158). -/
theorem subOut_false (x y : Byte) :
    subOut x y false =
      { r := x - y
        z := decide (x = y)
        n := true
        h := decide (x.toNat % 16 < y.toNat % 16)
        c := decide (x.toNat < y.toNat) } := by
  have hr : BitVec.ofInt 8 ((x.toNat : Int) - y.toNat - (0 : Nat)) = x - y := by
    apply BitVec.eq_of_toNat_eq
    rw [BitVec.toNat_ofInt, BitVec.toNat_sub]
    omega
  have hz : (x - y == 0) = decide (x = y) := by
    rw [beq_eq_decide, decide_eq_decide]
    exact sub_eq_zero
  simp only [subOut, Bool.toNat_false, hr, hz, Nat.add_zero]

theorem logicOut_eq (r : Byte) (h : Bool) :
    logicOut r h = { r := r, z := decide (r = 0), n := false, h := h, c := false } := by
  rw [logicOut, beq_eq_decide]

theorem incOut_eq (v : Byte) (c : Bool) :
    incOut v c =
      { r := BitVec.ofNat 8 (v.toNat + 1)
        z := decide ((v.toNat + 1) % 256 = 0)
        n := false
        h := decide (v.toNat % 16 = 0xF)
        c := c } := by
  have hr : v + 1 = BitVec.ofNat 8 (v.toNat + 1) := by
    rw [BitVec.ofNat_add, BitVec.ofNat_toNat, BitVec.setWidth_eq]
    rfl
  rw [incOut, hr, ofNat_beq_zero]

/-- One less is 255 more, modulo 256. -/
theorem decOut_eq (v : Byte) (c : Bool) :
    decOut v c =
      { r := BitVec.ofNat 8 (v.toNat + 255)
        z := decide (v.toNat = 1)
        n := true
        h := decide (v.toNat % 16 = 0)
        c := c } := by
  have hr : v - 1 = BitVec.ofNat 8 (v.toNat + 255) := by bv_omega
  have hz : (v.toNat + 255) % 256 = 0 ↔ v.toNat = 1 := by omega
  rw [decOut, hr, ofNat_beq_zero, decide_eq_decide.mpr hz]

/-- After a subtraction the carry is kept. -/
theorem daaOut_of_subtracted {n : Bool} (hn : n = true) (x : Byte) (h c : Bool) :
    let r : Int := (x.toNat : Int) - (if c then 0x60 else 0) - (if h then 0x06 else 0)
    daaOut x n h c = { r := BitVec.ofInt 8 r, z := decide (r % 256 = 0), n := n, h := false, c := c } := by
  simp only [daaOut, if_pos hn, ofInt_beq_zero]

/-- After an addition the carry is that of the high digit's correction. -/
theorem daaOut_of_added {n : Bool} (hn : n = false) (x : Byte) (h c : Bool) :
    let high := c || decide (x.toNat > 0x99)
    let low := h || decide (x.toNat % 16 > 0x9)
    let r := x.toNat + (if high then 0x60 else 0) + (if low then 0x06 else 0)
    daaOut x n h c = { r := BitVec.ofNat 8 r, z := decide (r % 256 = 0), n := n, h := false, c := high } := by
  have hn' : ¬n = true := by simp [hn]
  simp only [daaOut, if_neg hn', ofNat_beq_zero]

/-! The shared operations, field by field. -/

/-- An accumulator operation's outcome goes to A, unless it is `CP`, and to the flags. -/
theorem aluApply_of_aluOut {op : AluOp} {s : State} {y : Byte} {o : AluOut} (h : aluOut op s.a y s.fC = o) (cyc : Nat) :
    aluApply op y cyc s = { s with
      a := aluKeeps op s.a o.r, fZ := o.z, fN := o.n, fH := o.h, fC := o.c, cycles := cyc } := by
  rw [← h]
  rfl

/-! The three operand forms of an operation with outcome `out` (R150). -/

section
variable {op : AluOp} {out : Byte → Byte → Bool → AluOut} (h : ∀ x y c, aluOut op x y c = out x y c)
include h

theorem exec_aluReg_of_aluOut (r : Reg8) (s : State) :
    let o := out s.a (s.reg r) s.fC
    exec (Form.aluReg op r) s = .next { s with
      a := aluKeeps op s.a o.r, fZ := o.z, fN := o.n, fH := o.h, fC := o.c, cycles := 4 } := by
  rw [exec_aluReg, aluApply_of_aluOut (h _ _ _)]

theorem exec_aluMhl_of_aluOut (s : State) :
    let o := out s.a (readByte s s.hl) s.fC
    exec (Form.aluMhl op) s = .next { s.countRead with
      a := aluKeeps op s.a o.r, fZ := o.z, fN := o.n, fH := o.h, fC := o.c, cycles := 8 } := by
  rw [exec_aluMhl, aluApply_of_aluOut (h _ _ _)]
  rfl

theorem exec_aluImm_of_aluOut (n : Byte) (s : State) :
    let o := out s.a n s.fC
    exec (Form.aluImm op n) s = .next { s with
      a := aluKeeps op s.a o.r, fZ := o.z, fN := o.n, fH := o.h, fC := o.c, cycles := 8 } := by
  rw [exec_aluImm, aluApply_of_aluOut (h _ _ _)]

end

/-- Writing the flags of an outcome that hands on the carry writes the other three. -/
theorem setAluFlags_of_carry_kept {o : AluOut} {s : State} (h : o.c = s.fC) :
    s.setAluFlags o = { s with fZ := o.z, fN := o.n, fH := o.h } := by
  rw [State.setAluFlags, h]
  rfl

/-- Neither a register write nor a store touches the carry (R159 to R162). -/
theorem stepReg_of_carry_kept (r : Reg8) {o : AluOut} {s : State} (h : o.c = s.fC) :
    stepReg r o s = { s.setReg r o.r with fZ := o.z, fN := o.n, fH := o.h, cycles := 4 } := by
  have hc : o.c = (s.setReg r o.r).fC := by rw [setReg_fC, h]
  rw [stepReg, setAluFlags_of_carry_kept hc]
  rfl

theorem stepMhl_of_carry_kept {o : AluOut} {s : State} (h : o.c = s.fC) :
    stepMhl o s = { writeByte s.hl o.r s.countRead with fZ := o.z, fN := o.n, fH := o.h, cycles := 12 } := by
  have hc : o.c = (writeByte s.hl o.r s.countRead).fC := by rw [writeByte_fC, countRead_fC, h]
  rw [stepMhl, setAluFlags_of_carry_kept hc]
  rfl

/-- `INC (HL)` (R160). -/
theorem exec_incMhl (s : State) : exec .inc_mhl s = .next (stepMhl (incOut (readByte s s.hl) s.fC) s) := rfl

/-- `DEC (HL)` (R162). -/
theorem exec_decMhl (s : State) : exec .dec_mhl s = .next (stepMhl (decOut (readByte s s.hl) s.fC) s) := rfl

/-- Decimal adjustment's outcome goes to A and the flags (R163). -/
theorem adjustA_of_daaOut {s : State} {o : AluOut} (h : daaOut s.a s.fN s.fH s.fC = o) :
    adjustA s = { s with a := o.r, fZ := o.z, fN := o.n, fH := o.h, fC := o.c, cycles := 4 } := by
  rw [← h]
  rfl

/-- Flipping every bit subtracts from 255. -/
theorem complementA_eq (s : State) :
    complementA s = { s with a := BitVec.ofNat 8 (255 - s.a.toNat), fN := true, fH := true, cycles := 4 } := by
  have ha : s.a ^^^ 0xFF = BitVec.ofNat 8 (255 - s.a.toNat) := by
    apply BitVec.eq_of_toNat_eq
    rw [show (0xFF : Byte) = BitVec.allOnes 8 from rfl, BitVec.xor_allOnes, BitVec.toNat_not, BitVec.toNat_ofNat]
    omega
  rw [complementA, ha]
  rfl

/-- Settles O30: `ADD` is the shared sum without a carry going in, `ADC` with fC. -/
theorem additionsSetResultAndFlags : Obligations.AdditionsSetResultAndFlags :=
  have hadd : ∀ x y c, aluOut .add x y c = _ := fun x y _ => addOut_eq x y false
  have hadc : ∀ x y c, aluOut .adc x y c = _ := addOut_eq
  ⟨decode_aluReg .add, decode_aluMhl .add, decode_aluImm .add,
    exec_aluReg_of_aluOut hadd, exec_aluMhl_of_aluOut hadd, exec_aluImm_of_aluOut hadd,
    decode_aluReg .adc, decode_aluMhl .adc, decode_aluImm .adc,
    exec_aluReg_of_aluOut hadc, exec_aluMhl_of_aluOut hadc, exec_aluImm_of_aluOut hadc⟩

/-- Settles O31: `SUB` is the shared difference without a borrow going in, `SBC` with fC; `CP` compares and leaves A. -/
theorem subtractionsSetResultAndFlags : Obligations.SubtractionsSetResultAndFlags :=
  have hsub : ∀ x y c, aluOut .sub x y c = _ := fun x y _ => subOut_eq x y false
  have hsbc : ∀ x y c, aluOut .sbc x y c = _ := subOut_eq
  have hcp : ∀ x y c, aluOut .cp x y c = _ := fun x y _ => subOut_false x y
  ⟨decode_aluReg .sub, decode_aluMhl .sub, decode_aluImm .sub,
    exec_aluReg_of_aluOut hsub, exec_aluMhl_of_aluOut hsub, exec_aluImm_of_aluOut hsub,
    decode_aluReg .sbc, decode_aluMhl .sbc, decode_aluImm .sbc,
    exec_aluReg_of_aluOut hsbc, exec_aluMhl_of_aluOut hsbc, exec_aluImm_of_aluOut hsbc,
    decode_aluReg .cp, decode_aluMhl .cp, decode_aluImm .cp,
    exec_aluReg_of_aluOut hcp, exec_aluMhl_of_aluOut hcp, exec_aluImm_of_aluOut hcp⟩

/-- Settles O32: the three operations differ in the result and in the constant half-carry. -/
theorem logicSetsResultAndFlags : Obligations.LogicSetsResultAndFlags :=
  have hand : ∀ x y c, aluOut .and x y c = _ := fun x y _ => logicOut_eq (x &&& y) true
  have hxor : ∀ x y c, aluOut .xor x y c = _ := fun x y _ => logicOut_eq (x ^^^ y) false
  have hor : ∀ x y c, aluOut .or x y c = _ := fun x y _ => logicOut_eq (x ||| y) false
  ⟨decode_aluReg .and, decode_aluMhl .and, decode_aluImm .and,
    exec_aluReg_of_aluOut hand, exec_aluMhl_of_aluOut hand, exec_aluImm_of_aluOut hand,
    decode_aluReg .xor, decode_aluMhl .xor, decode_aluImm .xor,
    exec_aluReg_of_aluOut hxor, exec_aluMhl_of_aluOut hxor, exec_aluImm_of_aluOut hxor,
    decode_aluReg .or, decode_aluMhl .or, decode_aluImm .or,
    exec_aluReg_of_aluOut hor, exec_aluMhl_of_aluOut hor, exec_aluImm_of_aluOut hor⟩

/-- Settles O33: a register or the byte at HL takes the outcome, and the carry is kept. -/
theorem incrementAndDecrement : Obligations.IncrementAndDecrement := by
  refine ⟨decode_incReg, fun r s => ?incReg, decode_of_length_one rfl, fun s => ?incMhl,
    decode_decReg, fun r s => ?decReg, decode_of_length_one rfl, fun s => ?decMhl⟩
  case incReg => rw [exec_incReg, incOut_eq, stepReg_of_carry_kept r rfl]
  case decReg => rw [exec_decReg, decOut_eq, stepReg_of_carry_kept r rfl]
  case incMhl => rw [exec_incMhl, incOut_eq, stepMhl_of_carry_kept rfl]
  case decMhl => rw [exec_decMhl, decOut_eq, stepMhl_of_carry_kept rfl]

/-- Settles O34: one branch for each value of fN. -/
theorem decimalAdjust : Obligations.DecimalAdjust :=
  ⟨decode_of_length_one rfl,
    fun _ hn => congrArg Host.Outcome.next (adjustA_of_daaOut (daaOut_of_added hn _ _ _)),
    fun _ hn => congrArg Host.Outcome.next (adjustA_of_daaOut (daaOut_of_subtracted hn _ _ _))⟩

/-- Settles O36: fZ is written back unchanged by all three, fC by `CPL`. -/
theorem complementAndCarry : Obligations.ComplementAndCarry :=
  ⟨decode_of_length_one rfl, fun s => congrArg Host.Outcome.next (complementA_eq s),
    decode_of_length_one rfl, fun _ => rfl,
    decode_of_length_one rfl, fun _ => rfl⟩

end Sys2Proof.Machine
end

