-- ==== Sys2Proof/Proofs/Alu16.lean ====
section
/-! SUPPORT. The 16-bit arithmetic instructions (43_alu16.md R180 to R183): the encodings of their families, and the shared operations
as updates of the state's fields. -/

namespace Sys2Proof

/-! The odd rows of the pair families: the pair's index with bit 0 of the middle field set (30_encoding.md R91). -/

@[simp] theorem pairIndex_mul_two_add_one_lt (p : Pair16) : pairIndex p * 2 + 1 < 8 := by cases p <;> decide

@[simp] theorem pairIndex_mul_two_add_one_div_two (p : Pair16) : (pairIndex p * 2 + 1) / 2 = pairIndex p := by omega

end Sys2Proof

namespace Sys2Proof.Machine

/-! The encodings of the families: none has operand bytes, whatever the pair. -/

theorem decode_addHlPair (p : Pair16) (rest : List Byte) :
    decode (opcode 0 (pairIndex p * 2 + 1) 1 :: rest) = .ok (Form.addHlPair p) rest := by
  have hlen : opcodeLength (opcode 0 (pairIndex p * 2 + 1) 1) = 1 := by simp [opcodeLength]
  simp [decode_of_length_one hlen, decodeOpcode, decodeX0]

theorem decode_incPair (p : Pair16) (rest : List Byte) :
    decode (opcode 0 (pairIndex p * 2) 3 :: rest) = .ok (Form.incPair p) rest := by
  have hlen : opcodeLength (opcode 0 (pairIndex p * 2) 3) = 1 := by simp [opcodeLength]
  simp [decode_of_length_one hlen, decodeOpcode, decodeX0]

theorem decode_decPair (p : Pair16) (rest : List Byte) :
    decode (opcode 0 (pairIndex p * 2 + 1) 3 :: rest) = .ok (Form.decPair p) rest := by
  have hlen : opcodeLength (opcode 0 (pairIndex p * 2 + 1) 3) = 1 := by simp [opcodeLength]
  simp [decode_of_length_one hlen, decodeOpcode, decodeX0]

/-! The shared operations, field by field. -/

/-- HL takes the sum modulo 65536; fZ is kept, the carries are those out of bits 11 and 15 (R180). -/
theorem addHl_eq (p : Pair16) (s : State) :
    let sum := s.hl.toNat + (s.pair p).toNat
    addHl p s = { s with
      h := hiByte (BitVec.ofNat 16 sum), l := loByte (BitVec.ofNat 16 sum), fN := false
      fH := decide (s.hl.toNat % 4096 + (s.pair p).toNat % 4096 > 0x0FFF)
      fC := decide (sum > 0xFFFF), cycles := 8 } := by
  rw [addHl, addHlOut, BitVec.add_def]
  rfl

/-- The pair moves by `k` modulo 65536: by 1 for `INC rr` (R181), by 65535 for `DEC rr` (R182). -/
theorem movePair_eq (p : Pair16) (k : Nat) (s : State) :
    movePair p (BitVec.ofNat 16 k) s = { s.setPair p (BitVec.ofNat 16 ((s.pair p).toNat + k)) with cycles := 8 } := by
  rw [BitVec.ofNat_add, BitVec.ofNat_toNat, BitVec.setWidth_eq]
  rfl

/-- The carries are those of SP's low byte and `e` taken unsigned (R183). -/
theorem addSp_eq (e : Byte) (s : State) :
    addSp e s = { s with
      sp := BitVec.ofInt 16 ((s.sp.toNat : Int) + e.toInt), fZ := false, fN := false
      fH := decide (s.sp.toNat % 16 + e.toNat % 16 > 0x0F)
      fC := decide (s.sp.toNat % 256 + e.toNat > 0xFF), cycles := 16 } := by
  rw [← add_sext16]
  rfl

/-- Settles O37: the families' encodings, and each effect as the one shared operation; `-1` is the word 65535. -/
theorem wideArithmetic : Obligations.WideArithmetic :=
  ⟨decode_addHlPair, fun p s => (exec_addHlPair p s).trans (congrArg Host.Outcome.next (addHl_eq p s)),
    decode_incPair, fun p s => (exec_incPair p s).trans (congrArg Host.Outcome.next (movePair_eq p 1 s)),
    decode_decPair, fun p s => (exec_decPair p s).trans (congrArg Host.Outcome.next (movePair_eq p 65535 s)),
    decode_of_length_two rfl, fun e s => congrArg Host.Outcome.next (addSp_eq e s)⟩

end Sys2Proof.Machine
end

