-- ==== Sys2Proof/Proofs/Rotate.lean ====
section
/-! SUPPORT. The accumulator rotates and the CB table (44_rotate_shift_bit.md R190 to R205): the encodings of the table's four
families, the rotates, shifts and bit operations as the spec's arithmetic writes them, and the shared operations as updates of the
state's fields. -/

namespace Sys2Proof

/-! The tables `r8`, `rot` and the bit numbers undo the operands' indices (30_encoding.md R93, R94, R97). -/

@[simp] theorem operandIndex_lt : ∀ x : Operand8, operandIndex x < 8
  | .reg r => regIndex_lt r
  | .mhl => by decide

@[simp] theorem r8_operandIndex : ∀ x : Operand8, r8 (operandIndex x) = x
  | .reg r => r8_regIndex r
  | .mhl => r8_six

@[simp] theorem rotIndex_lt (op : RotOp) : rotIndex op < 8 := by cases op <;> decide

@[simp] theorem rotOf_rotIndex (op : RotOp) : rotOf (rotIndex op) = op := by cases op <;> rfl

@[simp] theorem bitNumber_lt (b : BitIndex) : bitNumber b < 8 := by cases b <;> decide

@[simp] theorem bitOf_bitNumber (b : BitIndex) : bitOf (bitNumber b) = b := by cases b <;> rfl

/-- The byte after 0xCB is looked up in the CB table (R100, R103). -/
theorem decode_cb (op2 : Byte) (rest : List Byte) : decode (0xCB :: op2 :: rest) = .ok (decodeCb op2) rest :=
  decode_of_length_two rfl op2 rest

/-! A byte put together from two fields, and one bit of a byte, as numbers. -/

theorem append_toNat {m n : Nat} (x : BitVec m) (y : BitVec n) : (x ++ y).toNat = x.toNat * 2 ^ n + y.toNat := by
  rw [BitVec.toNat_append, ← Nat.shiftLeft_add_eq_or_of_lt y.isLt, Nat.shiftLeft_eq]

section
variable {w : Nat} (v : BitVec w)

theorem getLsbD_eq_decide (b : Nat) : v.getLsbD b = decide (v.toNat / 2 ^ b % 2 = 1) := by
  rw [BitVec.getLsbD, Nat.testBit_eq_decide_div_mod_eq]

theorem not_getLsbD_eq_decide (b : Nat) : (!v.getLsbD b) = decide (v.toNat / 2 ^ b % 2 = 0) := by
  rw [getLsbD_eq_decide, ← decide_not, decide_eq_decide]
  omega

variable {b : Nat} (hb : b < w)
include hb

theorem and_twoPow_toNat : (v &&& BitVec.twoPow w b).toNat = v.toNat / 2 ^ b % 2 * 2 ^ b := by
  rw [BitVec.and_twoPow, BitVec.getLsbD, ← Nat.toNat_testBit]
  cases v.toNat.testBit b
  · simp
  · simp [BitVec.toNat_twoPow_of_lt hb]

/-- A value is its bit `b` and the rest of it. -/
theorem and_not_twoPow_toNat :
    (v &&& ~~~BitVec.twoPow w b).toNat + v.toNat / 2 ^ b % 2 * 2 ^ b = v.toNat := by
  have hdisjoint : (v &&& ~~~BitVec.twoPow w b) &&& (v &&& BitVec.twoPow w b) = 0#w := by
    ext i
    simp +contextual
  have hunion : (v &&& ~~~BitVec.twoPow w b) ||| (v &&& BitVec.twoPow w b) = v := by
    rw [← BitVec.and_or_distrib_left]
    simp
  rw [← and_twoPow_toNat v hb, ← BitVec.toNat_add_of_and_eq_zero hdisjoint, BitVec.add_eq_or_of_and_eq_zero _ _ hdisjoint,
    hunion]

/-- Clearing bit `b` takes its weight away. -/
theorem and_not_twoPow_eq :
    v &&& ~~~BitVec.twoPow w b = BitVec.ofNat w (v.toNat - v.toNat / 2 ^ b % 2 * 2 ^ b) := by
  rw [← Nat.eq_sub_of_add_eq (and_not_twoPow_toNat v hb), BitVec.ofNat_toNat, BitVec.setWidth_eq]

/-- Setting bit `b` adds its weight where the bit was clear. -/
theorem or_twoPow_eq :
    v ||| BitVec.twoPow w b = BitVec.ofNat w (v.toNat + (1 - v.toNat / 2 ^ b % 2) * 2 ^ b) := by
  have hdisjoint : (v &&& ~~~BitVec.twoPow w b) &&& BitVec.twoPow w b = 0#w := by
    ext i
    simp
  have hunion : v ||| BitVec.twoPow w b = (v &&& ~~~BitVec.twoPow w b) ||| BitVec.twoPow w b := by
    ext i
    simp [Bool.or_and_distrib_right]
  have hrest := and_not_twoPow_toNat v hb
  have hsum : (v &&& ~~~BitVec.twoPow w b).toNat + 2 ^ b = v.toNat + (1 - v.toNat / 2 ^ b % 2) * 2 ^ b := by
    obtain hbit | hbit := Nat.mod_two_eq_zero_or_one (v.toNat / 2 ^ b) <;>
      · rw [hbit] at hrest ⊢
        omega
  rw [hunion, ← BitVec.add_eq_or_of_and_eq_zero _ _ hdisjoint, BitVec.add_def, BitVec.toNat_twoPow_of_lt hb, hsum]

end

end Sys2Proof

namespace Sys2Proof.Machine

/-! The encodings of the families. -/

theorem decode_rot (op : RotOp) (x : Operand8) (rest : List Byte) :
    decode (0xCB :: opcode 0 (rotIndex op) (operandIndex x) :: rest) = .ok (Form.rot op x) rest := by
  rw [decode_cb]
  simp [decodeCb]

theorem decode_bit (b : BitIndex) (x : Operand8) (rest : List Byte) :
    decode (0xCB :: opcode 1 (bitNumber b) (operandIndex x) :: rest) = .ok (Form.bit b x) rest := by
  rw [decode_cb]
  simp [decodeCb]

theorem decode_res (b : BitIndex) (x : Operand8) (rest : List Byte) :
    decode (0xCB :: opcode 2 (bitNumber b) (operandIndex x) :: rest) = .ok (Form.res b x) rest := by
  rw [decode_cb]
  simp [decodeCb]

theorem decode_set (b : BitIndex) (x : Operand8) (rest : List Byte) :
    decode (0xCB :: opcode 3 (bitNumber b) (operandIndex x) :: rest) = .ok (Form.set b x) rest := by
  rw [decode_cb]
  simp [decodeCb]

/-! The two end bits of a byte, and the byte moved by one place or by four. -/

theorem getLsbD_seven (v : Byte) : v.getLsbD 7 = decide (v.toNat ≥ 128) := by
  rw [getLsbD_eq_decide, decide_eq_decide]
  omega

theorem getLsbD_seven_toNat (v : Byte) : (v.getLsbD 7).toNat = v.toNat / 128 := by
  rw [BitVec.getLsbD, Nat.toNat_testBit]
  omega

theorem getLsbD_zero (v : Byte) : v.getLsbD 0 = decide (v.toNat % 2 = 1) := Nat.testBit_zero v.toNat

theorem getLsbD_zero_toNat (v : Byte) : (v.getLsbD 0).toNat = v.toNat % 2 := by
  rw [BitVec.getLsbD, Nat.toNat_testBit, Nat.pow_zero, Nat.div_one]

theorem shiftLeftIn_eq (v : Byte) (b : Bool) : shiftLeftIn v b = BitVec.ofNat 8 (v.toNat * 2 + b.toNat) := by
  have hb := b.toNat_lt
  apply BitVec.eq_of_toNat_eq
  rw [shiftLeftIn, append_toNat, field_toNat, BitVec.toNat_ofBool, BitVec.toNat_ofNat]
  omega

theorem shiftRightIn_eq (v : Byte) (b : Bool) : shiftRightIn v b = BitVec.ofNat 8 (v.toNat / 2 + b.toNat * 128) := by
  have hb := b.toNat_lt
  apply BitVec.eq_of_toNat_eq
  rw [shiftRightIn, append_toNat, field_toNat, BitVec.toNat_ofBool, BitVec.toNat_ofNat]
  omega

theorem swapped_eq (v : Byte) : field 0 4 v ++ field 4 4 v = BitVec.ofNat 8 (v.toNat % 16 * 16 + v.toNat / 16) := by
  have hv := v.isLt
  have hhigh : v.toNat / 2 ^ 4 < 2 ^ 4 := by omega
  have hswapped : v.toNat % 16 * 16 + v.toNat / 16 < 2 ^ 8 := by omega
  apply BitVec.eq_of_toNat_eq
  rw [append_toNat, field_zero_toNat, field_toNat, BitVec.toNat_ofNat, Nat.mod_eq_of_lt hhigh, Nat.mod_eq_of_lt hswapped]
  rfl

/-! The outcomes of the eight operations, in the spec's arithmetic. -/

/-- The outcome of a rotate or shift with the unbounded result `w`, truncated at the end, and the bit `c` that left the byte. -/
def truncOut (w : Nat) (c : Bool) : AluOut :=
  { r := BitVec.ofNat 8 w, z := decide (w % 256 = 0), n := false, h := false, c := c }

theorem shiftOut_ofNat (w : Nat) (c : Bool) : shiftOut (BitVec.ofNat 8 w) c = truncOut w c := by
  rw [shiftOut, ofNat_beq_zero, truncOut]

theorem rotOut_rlc (v : Byte) (c : Bool) :
    rotOut .rlc v c = truncOut (v.toNat * 2 + v.toNat / 128) (decide (v.toNat ≥ 128)) := by
  rw [rotOut, shiftLeftIn_eq, shiftOut_ofNat, getLsbD_seven_toNat, getLsbD_seven]

theorem rotOut_rrc (v : Byte) (c : Bool) :
    rotOut .rrc v c = truncOut (v.toNat / 2 + v.toNat % 2 * 128) (decide (v.toNat % 2 = 1)) := by
  rw [rotOut, shiftRightIn_eq, shiftOut_ofNat, getLsbD_zero_toNat, getLsbD_zero]

theorem rotOut_rl (v : Byte) (c : Bool) :
    rotOut .rl v c = truncOut (v.toNat * 2 + c.toNat) (decide (v.toNat ≥ 128)) := by
  rw [rotOut, shiftLeftIn_eq, shiftOut_ofNat, getLsbD_seven]

theorem rotOut_rr (v : Byte) (c : Bool) :
    rotOut .rr v c = truncOut (v.toNat / 2 + c.toNat * 128) (decide (v.toNat % 2 = 1)) := by
  rw [rotOut, shiftRightIn_eq, shiftOut_ofNat, getLsbD_zero]

theorem rotOut_sla (v : Byte) (c : Bool) :
    rotOut .sla v c = truncOut (v.toNat * 2) (decide (v.toNat ≥ 128)) := by
  rw [rotOut, shiftLeftIn_eq, shiftOut_ofNat, getLsbD_seven, Bool.toNat_false, Nat.add_zero]

theorem rotOut_sra (v : Byte) (c : Bool) :
    rotOut .sra v c = truncOut (v.toNat / 2 + v.toNat / 128 * 128) (decide (v.toNat % 2 = 1)) := by
  rw [rotOut, shiftRightIn_eq, shiftOut_ofNat, getLsbD_seven_toNat, getLsbD_zero]

theorem rotOut_swap (v : Byte) (c : Bool) :
    rotOut .swap v c = truncOut (v.toNat % 16 * 16 + v.toNat / 16) false := by
  rw [rotOut, swapped_eq, shiftOut_ofNat]

theorem rotOut_srl (v : Byte) (c : Bool) :
    rotOut .srl v c = truncOut (v.toNat / 2) (decide (v.toNat % 2 = 1)) := by
  rw [rotOut, shiftRightIn_eq, shiftOut_ofNat, getLsbD_zero, Bool.toNat_false, Nat.zero_mul, Nat.add_zero]

/-! The shared operations, field by field, on a register and on the byte at HL alike (R194). -/

/-- An accumulator rotate is its namesake of the CB table on A, with fZ cleared (R190 to R193). -/
theorem rotateA_of_rotOut {acc : AccRotOp} {op : RotOp} {s : State} {o : AluOut}
    (hacc : accRotOut acc s.a s.fC = { rotOut op s.a s.fC with z := false }) (h : rotOut op s.a s.fC = o) :
    rotateA acc s = { s with a := o.r, fZ := false, fN := o.n, fH := o.h, fC := o.c, cycles := 4 } := by
  rw [rotateA, hacc, h]
  rfl

/-- The operand takes the result, and all four flags are written (R195 to R202). -/
theorem exec_rot_of_rotOut {op : RotOp} {out : Byte → Bool → AluOut} (h : ∀ v c, rotOut op v c = out v c) (x : Operand8)
    (s : State) :
    let o := out (operandValue x s) s.fC
    exec (Form.rot op x) s = .next { operandWrite x o.r (operandRead x s) with
      fZ := o.z, fN := o.n, fH := o.h, fC := o.c, cycles := cbCycles x 16 } := by
  rw [exec_rot, rotateOperand, h]
  rfl

/-- `BIT` reads the operand and writes three flags (R203). -/
theorem exec_bit_eq (b : BitIndex) (x : Operand8) (s : State) :
    exec (Form.bit b x) s = .next { operandRead x s with
      fZ := decide ((operandValue x s).toNat / 2 ^ bitNumber b % 2 = 0), fN := false, fH := true
      cycles := cbCycles x 12 } := by
  rw [exec_bit, testBit, not_getLsbD_eq_decide]
  cases x <;> rfl

/-- `RES` takes the bit's weight away and writes no flag (R204). -/
theorem exec_res_eq (b : BitIndex) (x : Operand8) (s : State) :
    let v := (operandValue x s).toNat
    exec (Form.res b x) s = .next { operandWrite x
      (BitVec.ofNat 8 (v - v / 2 ^ bitNumber b % 2 * 2 ^ bitNumber b)) (operandRead x s) with
        cycles := cbCycles x 16 } := by
  rw [exec_res, resetBit, and_not_twoPow_eq _ (bitNumber_lt b)]
  rfl

/-- `SET` adds the bit's weight where it was clear and writes no flag (R205). -/
theorem exec_set_eq (b : BitIndex) (x : Operand8) (s : State) :
    let v := (operandValue x s).toNat
    exec (Form.set b x) s = .next { operandWrite x
      (BitVec.ofNat 8 (v + (1 - v / 2 ^ bitNumber b % 2) * 2 ^ bitNumber b)) (operandRead x s) with
        cycles := cbCycles x 16 } := by
  rw [exec_set, setBit, or_twoPow_eq _ (bitNumber_lt b)]
  rfl

/-- Settles O38: each accumulator rotate through its namesake of the CB table. -/
theorem accumulatorRotates : Obligations.AccumulatorRotates :=
  ⟨fun rest => ⟨decode_of_length_one rfl rest, decode_of_length_one rfl rest, decode_of_length_one rfl rest,
      decode_of_length_one rfl rest⟩,
    fun s => congrArg Host.Outcome.next (rotateA_of_rotOut rfl (rotOut_rlc s.a s.fC)),
    fun s => congrArg Host.Outcome.next (rotateA_of_rotOut rfl (rotOut_rrc s.a s.fC)),
    fun s => congrArg Host.Outcome.next (rotateA_of_rotOut rfl (rotOut_rl s.a s.fC)),
    fun s => congrArg Host.Outcome.next (rotateA_of_rotOut rfl (rotOut_rr s.a s.fC))⟩

/-- Settles O39: the family's encoding, and the one shared operation with each of the eight outcomes. -/
theorem extendedRotatesAndShifts : Obligations.ExtendedRotatesAndShifts :=
  have hrlc := exec_rot_of_rotOut rotOut_rlc
  have hrrc := exec_rot_of_rotOut rotOut_rrc
  have hrl := exec_rot_of_rotOut rotOut_rl
  have hrr := exec_rot_of_rotOut rotOut_rr
  have hsla := exec_rot_of_rotOut rotOut_sla
  have hsra := exec_rot_of_rotOut rotOut_sra
  have hswap := exec_rot_of_rotOut rotOut_swap
  have hsrl := exec_rot_of_rotOut rotOut_srl
  ⟨⟨decode_rot .rlc, fun x => hrlc (.reg x), hrlc .mhl⟩,
    ⟨decode_rot .rrc, fun x => hrrc (.reg x), hrrc .mhl⟩,
    ⟨decode_rot .rl, fun x => hrl (.reg x), hrl .mhl⟩,
    ⟨decode_rot .rr, fun x => hrr (.reg x), hrr .mhl⟩,
    ⟨decode_rot .sla, fun x => hsla (.reg x), hsla .mhl⟩,
    ⟨decode_rot .sra, fun x => hsra (.reg x), hsra .mhl⟩,
    ⟨decode_rot .swap, fun x => hswap (.reg x), hswap .mhl⟩,
    ⟨decode_rot .srl, fun x => hsrl (.reg x), hsrl .mhl⟩⟩

/-- Settles O40: the families' encodings, and the three shared operations on a register and on the byte at HL. -/
theorem bitTestResetSet : Obligations.BitTestResetSet :=
  ⟨fun b x rest => ⟨decode_bit b x rest, decode_res b x rest, decode_set b x rest⟩,
    fun b x => exec_bit_eq b (.reg x), fun b => exec_bit_eq b .mhl,
    fun b x => exec_res_eq b (.reg x), fun b => exec_res_eq b .mhl,
    fun b x => exec_set_eq b (.reg x), fun b => exec_set_eq b .mhl⟩

end Sys2Proof.Machine
end

