-- ==== Sys2Proof/Proofs/Control.lean ====
section
/-! SUPPORT. The control transfer instructions (45_control.md R220 to R231): the encodings of their families, and jump, call and
return as updates of the state's fields. -/

namespace Sys2Proof

/-! The index and the target of `RST` (30_encoding.md R93). -/

@[simp] theorem rstIndex_lt (y : RstIndex) : rstIndex y < 8 := by cases y <;> decide

@[simp] theorem rstOf_rstIndex (y : RstIndex) : rstOf (rstIndex y) = y := by cases y <;> rfl

end Sys2Proof

namespace Sys2Proof.Machine

/-! The encodings of the families.  A condition shares its row with other instructions (30_encoding.md R98), so each condition's
opcode is looked up by itself. -/

theorem decode_jpCond (cc : Cond) (lo hi : Byte) (rest : List Byte) :
    decode (opcode 3 (condIndex cc) 2 :: lo :: hi :: rest) = .ok (Form.jpCond cc (word hi lo)) rest := by
  cases cc <;> exact decode_of_length_three rfl lo hi rest

theorem decode_jrCond (cc : Cond) (e : Byte) (rest : List Byte) :
    decode (opcode 0 (condIndex cc + 4) 0 :: e :: rest) = .ok (Form.jrCond cc e) rest := by
  cases cc <;> exact decode_of_length_two rfl e rest

theorem decode_callCond (cc : Cond) (lo hi : Byte) (rest : List Byte) :
    decode (opcode 3 (condIndex cc) 4 :: lo :: hi :: rest) = .ok (Form.callCond cc (word hi lo)) rest := by
  cases cc <;> exact decode_of_length_three rfl lo hi rest

theorem decode_retCond (cc : Cond) (rest : List Byte) :
    decode (opcode 3 (condIndex cc) 0 :: rest) = .ok (Form.retCond cc) rest := by
  cases cc <;> exact decode_of_length_one rfl rest

theorem decode_rst (y : RstIndex) (rest : List Byte) :
    decode (opcode 3 (rstIndex y) 7 :: rest) = .ok (Form.rst y) rest := by
  have hlen : opcodeLength (opcode 3 (rstIndex y) 7) = 1 := by simp [opcodeLength]
  simp [decode_of_length_one hlen, decodeOpcode, decodeX3]

/-! The shared operations, field by field. -/

theorem jumpTo_eq (v : Word) (cyc : Nat) (s : State) : jumpTo v cyc s = { s with pc := v, cycles := cyc } := rfl

theorem jumpIf_eq (cc : Cond) (v : Word) (taken notTaken : Nat) (s : State) :
    jumpIf cc v taken notTaken s =
      if condHolds cc s then { s with pc := v, cycles := taken } else { s with cycles := notTaken } := rfl

/-- The displacement is signed, and the target wraps modulo 65536 (R224). -/
theorem relTarget_eq (e : Byte) (s : State) : relTarget e s = BitVec.ofInt 16 ((s.pc.toNat : Int) + e.toInt) :=
  add_sext16 s.pc e

/-- The pushed PC is the one past the call; SP moves before either byte is written (R226). -/
theorem callTo_eq (v : Word) (cyc : Nat) (s : State) :
    callTo v cyc s =
      { writeByte (s.sp - 2) (loByte s.pc) (writeByte (s.sp - 1) (hiByte s.pc) { s with sp := s.sp - 2 }) with
        pc := v, cycles := cyc } := by
  rw [callTo, push16_eq]
  rfl

theorem callIf_eq (cc : Cond) (nn : Word) (s : State) :
    callIf cc nn s = if condHolds cc s then callTo nn 24 s else { s with cycles := 12 } := rfl

theorem rstTarget_eq (y : RstIndex) : rstTarget y = BitVec.ofNat 16 (rstIndex y * 8) := by cases y <;> rfl

/-- PC takes the word at the old SP, low byte first (R228). -/
theorem returnFrom_eq (cyc : Nat) (s : State) :
    returnFrom cyc s = { s.countRead.countRead with
      pc := word (readByte s.countRead (s.sp + 1)) (readByte s s.sp), sp := s.sp + 2, cycles := cyc } := rfl

theorem returnIf_eq (cc : Cond) (s : State) :
    returnIf cc s = if condHolds cc s then returnFrom 20 s else { s with cycles := 8 } := rfl

/-- A return that sets IME at once, and so has nothing to wait for (R230). -/
theorem returnFromInterrupt_took (cyc : Nat) (s : State) :
    (returnFromInterrupt s).took cyc = { returnFrom cyc s with ime := true, eiPending := false } := rfl

/-- Settles O41: the encodings, each jump as the one shared jump to its target, and the condition test by definition. -/
theorem jumpsGoToTheirTargets : Obligations.JumpsGoToTheirTargets :=
  ⟨fun _ => ⟨rfl, rfl, rfl, rfl⟩,
    decode_of_length_three rfl, fun nn s => congrArg Host.Outcome.next (jumpTo_eq nn 16 s),
    decode_jpCond, fun cc nn s => (exec_jpCond cc nn s).trans (congrArg Host.Outcome.next (jumpIf_eq cc nn 16 12 s)),
    decode_of_length_one rfl, fun s => congrArg Host.Outcome.next (jumpTo_eq s.hl 4 s),
    decode_of_length_two rfl, fun e s => by
      rw [← relTarget_eq]
      exact congrArg Host.Outcome.next (jumpTo_eq (relTarget e s) 12 s),
    decode_jrCond, fun cc e s => by rw [exec_jrCond, jumpIf_eq, relTarget_eq]⟩

/-- Settles O42: the encodings, and each call as the one shared call to its target. -/
theorem callsPushTheReturnAddress : Obligations.CallsPushTheReturnAddress :=
  ⟨decode_of_length_three rfl, fun nn s => congrArg Host.Outcome.next (callTo_eq nn 24 s),
    decode_callCond, fun cc nn s => by rw [exec_callCond, callIf_eq, callTo_eq],
    decode_rst, fun y s => by rw [exec_rst, callTo_eq, rstTarget_eq]⟩

/-- Settles O43: the encodings, and each return as the one shared return. -/
theorem returnsPopTheAddress : Obligations.ReturnsPopTheAddress :=
  ⟨decode_of_length_one rfl, fun s => congrArg Host.Outcome.next (returnFrom_eq 16 s),
    decode_retCond, fun cc s => by rw [exec_retCond, returnIf_eq, returnFrom_eq],
    decode_of_length_one rfl, fun s => congrArg Host.Outcome.next (returnFromInterrupt_took 16 s)⟩

end Sys2Proof.Machine
end

