-- ==== Sys2Proof/Proofs/System.lean ====
section
/-! SUPPORT. The system instructions (46_system.md R240 to R246): the prefix byte, which runs an entry of the CB table. -/

namespace Sys2Proof.Machine

/-- What the decoder reads in the CB table, by the byte's top field (30_encoding.md R100), means the table's entry. -/
theorem exec_decodeCb (op2 : Byte) (s : State) : exec (decodeCb op2) s = .next (cbEntry op2 s) := by
  match h : op2.toNat / 64 with
  | 0 => simp only [decodeCb, cbEntry, h, exec_rot]
  | 1 => simp only [decodeCb, cbEntry, h, exec_bit]
  | 2 => simp only [decodeCb, cbEntry, h, exec_res]
  | n + 3 => simp only [decodeCb, cbEntry, h, exec_set]

/-- `PREFIX CB` fetches one byte and completes with its entry (R245). -/
theorem exec_prefix (s : State) : exec .prefix_cb s = .next (cbEntry (readByte s s.pc) (afterFetch s)) := rfl

/-- Settles O47: the prefix and the instruction decoded from the fetched byte run the same CB-table entry, which always answers a
next state. -/
theorem prefixRunsExtendedTable : Obligations.PrefixRunsExtendedTable :=
  ⟨fun s => ⟨(exec_prefix s).trans (exec_decodeCb (readByte s s.pc) (afterFetch s)).symm, _, exec_prefix s⟩, decode_cb⟩

end Sys2Proof.Machine
end

