-- ==== Sys2Proof/Proofs/Interrupts.lean ====
section
/-! SUPPORT. The interrupt check (60_exceptions.md R260 to R264): which bit is taken, what the CPU does then, and what a dispatch
changes. -/

namespace Sys2Proof.Machine

/-- A source is pending when its bit is set in IE and in IF (R260); IF has no bit past the five
sources, so the mask needs no mention. -/
@[simp] theorem pending_getLsbD (s : State) (k : Nat) :
    (pending s).getLsbD k = (s.ie.getLsbD k && s.iflag.getLsbD k) := by
  by_cases hk : k < 5
  · simp only [pending, BitVec.getLsbD_and, BitVec.getLsbD_setWidth, hk, decide_true, Bool.true_and]
  · have hge : 5 ≤ k := Nat.le_of_not_lt hk
    rw [BitVec.getLsbD_of_ge _ _ hge, BitVec.getLsbD_of_ge s.iflag _ hge, Bool.and_false]

theorem ne_zero_of_getLsbD {w k : Nat} {p : BitVec w} (hk : p.getLsbD k = true) : p ≠ 0 := by
  rintro rfl
  exact Bool.false_ne_true (BitVec.getLsbD_zero.symm.trans hk)

/-- A set bit with no set bit below it is the one taken (R264). -/
theorem lowestBit_of_least {p : BitVec 5} {k : Nat} (hk : p.getLsbD k = true) (hlow : ∀ j, j < k → ¬p.getLsbD j = true) :
    lowestBit p = k := by
  have hlt : k < 5 := BitVec.lt_of_getLsbD hk
  match k with
  | 0 => rw [lowestBit, if_pos hk]
  | 1 => rw [lowestBit, if_neg (hlow 0 (by decide)), if_pos hk]
  | 2 => rw [lowestBit, if_neg (hlow 0 (by decide)), if_neg (hlow 1 (by decide)), if_pos hk]
  | 3 =>
    rw [lowestBit, if_neg (hlow 0 (by decide)), if_neg (hlow 1 (by decide)), if_neg (hlow 2 (by decide)), if_pos hk]
  | 4 =>
    rw [lowestBit, if_neg (hlow 0 (by decide)), if_neg (hlow 1 (by decide)), if_neg (hlow 2 (by decide)),
      if_neg (hlow 3 (by decide))]

/-- With IME set and a source pending the check dispatches, out of HALT too, and before any fetch (R260, R261). -/
theorem cpuPlan_of_ime_of_pending {s : State} (hime : s.ime = true) (hp : pending s ≠ 0) :
    cpuPlan s = .dispatch (lowestBit (pending s)) { s with mode := .running } := by
  rw [cpuPlan, if_neg fun h => hp h.2, if_pos ⟨hime, hp⟩]

theorem step_of_cpuPlan_dispatch {s t : State} {k : Nat} (hmode : s.mode = .running ∨ s.mode = .halted)
    (hplan : cpuPlan s = .dispatch k t) : step s = .next (afterCpu (dispatchInterrupt k t)) := by
  rcases hmode with hmode | hmode <;> simp only [step, hmode, hplan]

/-- The IF bit, IME and `ei_pending` are cleared before the push, so that a byte pushed onto IF or IE stands (R262). -/
theorem dispatchInterrupt_eq (k : Nat) (s : State) :
    dispatchInterrupt k s =
      { writeByte (s.sp - 2) (loByte s.pc) (writeByte (s.sp - 1) (hiByte s.pc)
          { s with iflag := s.iflag &&& ~~~BitVec.twoPow 5 k, ime := false, eiPending := false, sp := s.sp - 2 }) with
        pc := BitVec.ofNat 16 (0x40 + 8 * k), cycles := 20 } := by
  rw [dispatchInterrupt, push16_eq]
  rfl

/-- Settles O6: the bit is the lowest pending one, so the check dispatches it, and the dispatch is its push and its jump. -/
theorem stepDispatchesHighestPriority : Obligations.StepDispatchesHighestPriority := by
  intro s k hmode hime _ hie hif hlow
  have hk : (pending s).getLsbD k = true := by rw [pending_getLsbD, hie, hif, Bool.and_self]
  have hleast : lowestBit (pending s) = k :=
    lowestBit_of_least hk fun j hj h => hlow j hj (by rwa [pending_getLsbD, Bool.and_eq_true] at h)
  rw [step_of_cpuPlan_dispatch hmode (cpuPlan_of_ime_of_pending hime (ne_zero_of_getLsbD hk)), hleast, dispatchInterrupt_eq]

end Sys2Proof.Machine
end

