-- ==== Sys2Proof/Proofs/RoundTrip.lean ====
section
/-! SUPPORT. Decode and encode agree both ways (30_encoding.md R90 to R104): the bytes of each register-indexed family by the fields
of its opcode, and what the decoder reads from each row of the opcode table. -/

namespace Sys2Proof

/-! The bytes of each family, in the fields R91 to R97 give them. -/

@[simp] theorem encode_ldRegReg (x y : Reg8) : encode (Form.ldRegReg x y) = [opcode 1 (regIndex x) (regIndex y)] := by
  cases x <;> cases y <;> rfl

@[simp] theorem encode_ldRegImm (x : Reg8) (n : Byte) : encode (Form.ldRegImm x n) = [opcode 0 (regIndex x) 6, n] := by
  cases x <;> rfl

@[simp] theorem encode_ldRegMhl (x : Reg8) : encode (Form.ldRegMhl x) = [opcode 1 (regIndex x) 6] := by cases x <;> rfl

@[simp] theorem encode_ldMhlReg (x : Reg8) : encode (Form.ldMhlReg x) = [opcode 1 6 (regIndex x)] := by cases x <;> rfl

@[simp] theorem encode_ldPairImm (p : Pair16) (nn : Word) :
    encode (Form.ldPairImm p nn) = [opcode 0 (pairIndex p * 2) 1, loByte nn, hiByte nn] := by cases p <;> rfl

@[simp] theorem encode_push (p : StackPair) : encode (Form.push p) = [opcode 3 (stackIndex p * 2) 5] := by cases p <;> rfl

@[simp] theorem encode_pop (p : StackPair) : encode (Form.pop p) = [opcode 3 (stackIndex p * 2) 1] := by cases p <;> rfl

@[simp] theorem encode_aluReg (op : AluOp) (x : Reg8) :
    encode (Form.aluReg op x) = [opcode 2 (aluIndex op) (regIndex x)] := by cases op <;> cases x <;> rfl

@[simp] theorem encode_aluMhl (op : AluOp) : encode (Form.aluMhl op) = [opcode 2 (aluIndex op) 6] := by cases op <;> rfl

@[simp] theorem encode_aluImm (op : AluOp) (n : Byte) : encode (Form.aluImm op n) = [opcode 3 (aluIndex op) 6, n] := by
  cases op <;> rfl

@[simp] theorem encode_incReg (x : Reg8) : encode (Form.incReg x) = [opcode 0 (regIndex x) 4] := by cases x <;> rfl

@[simp] theorem encode_decReg (x : Reg8) : encode (Form.decReg x) = [opcode 0 (regIndex x) 5] := by cases x <;> rfl

@[simp] theorem encode_addHlPair (p : Pair16) : encode (Form.addHlPair p) = [opcode 0 (pairIndex p * 2 + 1) 1] := by
  cases p <;> rfl

@[simp] theorem encode_incPair (p : Pair16) : encode (Form.incPair p) = [opcode 0 (pairIndex p * 2) 3] := by cases p <;> rfl

@[simp] theorem encode_decPair (p : Pair16) : encode (Form.decPair p) = [opcode 0 (pairIndex p * 2 + 1) 3] := by
  cases p <;> rfl

@[simp] theorem encode_accRot (op : AccRotOp) : encode (Form.accRot op) = [opcode 0 (accRotIndex op) 7] := by
  cases op <;> rfl

/-- An entry of `r8` is a register or the byte at HL: the case split over the operand of a CB-table row. -/
theorem operand8_cases {P : Operand8 → Prop} (mhl : P .mhl) (b : P (.reg .b)) (c : P (.reg .c)) (d : P (.reg .d))
    (e : P (.reg .e)) (h : P (.reg .h)) (l : P (.reg .l)) (a : P (.reg .a)) : ∀ x, P x
  | .mhl => mhl
  | .reg .b => b
  | .reg .c => c
  | .reg .d => d
  | .reg .e => e
  | .reg .h => h
  | .reg .l => l
  | .reg .a => a

@[simp] theorem encode_rot (op : RotOp) (x : Operand8) :
    encode (Form.rot op x) = [0xCB, opcode 0 (rotIndex op) (operandIndex x)] := by
  cases op <;> cases x using operand8_cases <;> rfl

@[simp] theorem encode_bit (b : BitIndex) (x : Operand8) :
    encode (Form.bit b x) = [0xCB, opcode 1 (bitNumber b) (operandIndex x)] := by
  cases b <;> cases x using operand8_cases <;> rfl

@[simp] theorem encode_res (b : BitIndex) (x : Operand8) :
    encode (Form.res b x) = [0xCB, opcode 2 (bitNumber b) (operandIndex x)] := by
  cases b <;> cases x using operand8_cases <;> rfl

@[simp] theorem encode_set (b : BitIndex) (x : Operand8) :
    encode (Form.set b x) = [0xCB, opcode 3 (bitNumber b) (operandIndex x)] := by
  cases b <;> cases x using operand8_cases <;> rfl

@[simp] theorem encode_jpCond (cc : Cond) (nn : Word) :
    encode (Form.jpCond cc nn) = [opcode 3 (condIndex cc) 2, loByte nn, hiByte nn] := by cases cc <;> rfl

@[simp] theorem encode_jrCond (cc : Cond) (e : Byte) : encode (Form.jrCond cc e) = [opcode 0 (condIndex cc + 4) 0, e] := by
  cases cc <;> rfl

@[simp] theorem encode_callCond (cc : Cond) (nn : Word) :
    encode (Form.callCond cc nn) = [opcode 3 (condIndex cc) 4, loByte nn, hiByte nn] := by cases cc <;> rfl

@[simp] theorem encode_retCond (cc : Cond) : encode (Form.retCond cc) = [opcode 3 (condIndex cc) 0] := by cases cc <;> rfl

@[simp] theorem encode_rst (y : RstIndex) : encode (Form.rst y) = [opcode 3 (rstIndex y) 7] := by cases y <;> rfl

open Machine in
/-- Settles O2: a family's bytes decode by its own table lookup, a single row by the round trip of its constructor. -/
theorem decodeOfEncode : Obligations.DecodeOfEncode := by
  intro i rest hwf
  cases i using instr_cases with
  | h_ldRegReg x y => simp [decode_ldRegReg]
  | h_ldRegImm x n => simp [decode_ldRegImm]
  | h_ldRegMhl x => simp [decode_ldRegMhl]
  | h_ldMhlReg x => simp [decode_ldMhlReg]
  | h_ldPairImm p nn => simp [decode_ldPairImm]
  | h_push p => simp [decode_push]
  | h_pop p => simp [decode_pop]
  | h_aluReg op x => simp [decode_aluReg]
  | h_aluMhl op => simp [decode_aluMhl]
  | h_aluImm op n => simp [decode_aluImm]
  | h_incReg x => simp [decode_incReg]
  | h_decReg x => simp [decode_decReg]
  | h_addHlPair p => simp [decode_addHlPair]
  | h_incPair p => simp [decode_incPair]
  | h_decPair p => simp [decode_decPair]
  | h_accRot op => cases op <;> exact decode_of_length_one rfl rest
  | h_rot op x => rw [encode_rot]; exact decode_rot op x rest
  | h_bit b x => rw [encode_bit]; exact decode_bit b x rest
  | h_res b x => rw [encode_res]; exact decode_res b x rest
  | h_set b x => rw [encode_set]; exact decode_set b x rest
  | h_jpCond cc nn => simp [decode_jpCond]
  | h_jrCond cc e => simp [decode_jrCond]
  | h_callCond cc nn => simp [decode_callCond]
  | h_retCond cc => simp [decode_retCond]
  | h_rst y => simp [decode_rst]
  | h_ld_mnn_sp nn => exact Laws.RoundTrip.ld_mnn_sp nn hwf rest
  | h_jp_nn nn => exact Laws.RoundTrip.jp_nn nn hwf rest
  | h_call_nn nn => exact Laws.RoundTrip.call_nn nn hwf rest
  | h_ld_mnn_a nn => exact Laws.RoundTrip.ld_mnn_a nn hwf rest
  | h_ld_a_mnn nn => exact Laws.RoundTrip.ld_a_mnn nn hwf rest
  | h_unmapped op => exact Laws.RoundTrip.unmapped op hwf rest
  | h_prefix_cb => cases hwf
  | h_stop n | h_jr_e n | h_ld_mhl_n n | h_ldh_mn_a n | h_add_sp_e n | h_ldh_a_mn n | h_ld_hl_sp_e n =>
    exact decode_of_length_two rfl n rest
  | h_nop | h_ld_mbc_a | h_ld_a_mbc | h_ld_mde_a | h_ld_a_mde | h_ld_mhli_a | h_daa | h_ld_a_mhli | h_cpl | h_ld_mhld_a
  | h_inc_mhl | h_dec_mhl | h_scf | h_ld_a_mhld | h_ccf | h_halt | h_ret | h_reti | h_ldh_mc_a | h_jp_hl | h_ldh_a_mc | h_di
  | h_ld_sp_hl | h_ei => exact decode_of_length_one rfl rest

/-! What the decoder reads, row by row of the table: the bytes of the instruction are the bytes that were read. -/

/-- Read with opcode byte `op` and the word `nn` behind it, `i` is a whole instruction, and its bytes are those its format takes
from them (R90, R92). -/
def ReadsAs (op : Byte) (nn : Word) (i : Instr) : Prop :=
  WellFormed i = true ∧ encode i = [op, loByte nn, hiByte nn].take (opcodeLength op)

/-- A byte is its three fields (R91). -/
theorem opcode_of_fields (op : Byte) : opcode (op.toNat / 64) (op.toNat / 8 % 8) (op.toNat % 8) = op := by
  have := op.isLt
  apply BitVec.eq_of_toNat_eq
  rw [opcode, BitVec.toNat_ofNat]
  omega

theorem operandIndex_r8 {z : Nat} (hz : z < 8) : operandIndex (r8 z) = z := by interval_cases z <;> rfl

theorem rotIndex_rotOf {y : Nat} (hy : y < 8) : rotIndex (rotOf y) = y := by interval_cases y <;> rfl

theorem bitNumber_bitOf {y : Nat} (hy : y < 8) : bitNumber (bitOf y) = y := by interval_cases y <;> rfl

/-- No family of the CB table needs a check (R102, R103). -/
theorem wellFormed_decodeCb (op2 : Byte) : WellFormed (decodeCb op2) = true := by
  have hrot : ∀ op x, WellFormed (Form.rot op x) = true := fun op x => by
    cases op <;> cases x using operand8_cases <;> rfl
  have hbit : ∀ b x, WellFormed (Form.bit b x) = true := fun b x => by
    cases b <;> cases x using operand8_cases <;> rfl
  have hres : ∀ b x, WellFormed (Form.res b x) = true := fun b x => by
    cases b <;> cases x using operand8_cases <;> rfl
  have hset : ∀ b x, WellFormed (Form.set b x) = true := fun b x => by
    cases b <;> cases x using operand8_cases <;> rfl
  unfold decodeCb
  dsimp only
  split
  · exact hrot _ _
  · exact hbit _ _
  · exact hres _ _
  · exact hset _ _

/-- The CB table keeps all three fields of the byte after 0xCB (R100). -/
theorem encode_decodeCb (op2 : Byte) : encode (decodeCb op2) = [0xCB, op2] := by
  have hy : op2.toNat / 8 % 8 < 8 := Nat.mod_lt _ (by decide)
  have hz : op2.toNat % 8 < 8 := Nat.mod_lt _ (by decide)
  have hx : op2.toNat / 64 < 4 := by have := op2.isLt; omega
  have hop := opcode_of_fields op2
  match h : op2.toNat / 64 with
  | 0 => rw [h] at hop; simp [decodeCb, h, rotIndex_rotOf hy, operandIndex_r8 hz, hop]
  | 1 => rw [h] at hop; simp [decodeCb, h, bitNumber_bitOf hy, operandIndex_r8 hz, hop]
  | 2 => rw [h] at hop; simp [decodeCb, h, bitNumber_bitOf hy, operandIndex_r8 hz, hop]
  | 3 => rw [h] at hop; simp [decodeCb, h, bitNumber_bitOf hy, operandIndex_r8 hz, hop]
  | n + 4 => omega

/-- The rows x = 0: each of the 64 is looked up, its operand bytes left open. -/
theorem decodeX0_readsAs {y z : Nat} (hy : y < 8) (hz : z < 8) (nn : Word) :
    ReadsAs (opcode 0 y z) nn (decodeX0 (opcode 0 y z) (loByte nn) nn) := by
  interval_cases z <;> interval_cases y <;> exact ⟨rfl, rfl⟩

/-- The rows x = 1: both operand fields come back, and HALT takes the place of `LD (HL),(HL)` (R94). -/
theorem decodeX1_readsAs {y z : Nat} (hy : y < 8) (hz : z < 8) (nn : Word) :
    ReadsAs (opcode 1 y z) nn (decodeX1 (opcode 1 y z)) := by
  interval_cases z <;> interval_cases y <;> exact ⟨rfl, rfl⟩

/-- The rows x = 2: the operation and the operand come back. -/
theorem decodeX2_readsAs {y z : Nat} (hy : y < 8) (hz : z < 8) (nn : Word) :
    ReadsAs (opcode 2 y z) nn (decodeX2 (opcode 2 y z)) := by
  interval_cases z <;> interval_cases y <;> exact ⟨rfl, rfl⟩

/-- The rows x = 3, z = 3: the row of 0xCB is the CB table, the other 7 are looked up. -/
theorem decodeX3_readsAs_of_three {y : Nat} (hy : y < 8) (nn : Word) :
    ReadsAs (opcode 3 y 3) nn (decodeX3 (opcode 3 y 3) (loByte nn) nn) :=
  match y with
  | 1 => ⟨wellFormed_decodeCb _, encode_decodeCb _⟩
  | 0 | 2 | 3 | 4 | 5 | 6 | 7 => ⟨rfl, rfl⟩
  | n + 8 => by omega

/-- The rows x = 3: outside the column of the CB table each is looked up. -/
theorem decodeX3_readsAs {y z : Nat} (hy : y < 8) (hz : z < 8) (nn : Word) :
    ReadsAs (opcode 3 y z) nn (decodeX3 (opcode 3 y z) (loByte nn) nn) := by
  match z with
  | 3 => exact decodeX3_readsAs_of_three hy nn
  | 0 | 1 | 2 | 4 | 5 | 6 | 7 => interval_cases y <;> exact ⟨rfl, rfl⟩
  | n + 8 => omega

/-- What the decoder reads is whole, and nothing of its encoding is dropped (R92, R98). -/
theorem decodeOpcode_readsAs (op b1 b2 : Byte) : ReadsAs op (word b2 b1) (decodeOpcode op b1 b2) := by
  have hy : op.toNat / 8 % 8 < 8 := Nat.mod_lt _ (by decide)
  have hz : op.toNat % 8 < 8 := Nat.mod_lt _ (by decide)
  have hx : op.toNat / 64 < 4 := by have := op.isLt; omega
  have hop := opcode_of_fields op
  have h0 := decodeX0_readsAs hy hz (word b2 b1)
  have h1 := decodeX1_readsAs hy hz (word b2 b1)
  have h2 := decodeX2_readsAs hy hz (word b2 b1)
  have h3 := decodeX3_readsAs hy hz (word b2 b1)
  rw [loByte_word] at h0 h3
  match h : op.toNat / 64 with
  | 0 => rw [h] at hop; rw [hop] at h0; simpa only [decodeOpcode, h] using h0
  | 1 => rw [h] at hop; rw [hop] at h1; simpa only [decodeOpcode, h] using h1
  | 2 => rw [h] at hop; rw [hop] at h2; simpa only [decodeOpcode, h] using h2
  | 3 => rw [h] at hop; rw [hop] at h3; simpa only [decodeOpcode, h] using h3
  | n + 4 => omega

/-- Settles O3: by the length of the format, the bytes read are the opcode and the operand bytes, which `ReadsAs` gives back. -/
theorem encodeOfDecode : Obligations.EncodeOfDecode := by
  intro bs rest i h
  unfold decode at h
  split at h
  · cases h
  · split at h
    case h_1 op _ _ r hlen =>
      obtain ⟨rfl, rfl⟩ := Decoded.ok.inj h
      obtain ⟨hwf, henc⟩ := decodeOpcode_readsAs op 0 0
      exact ⟨hwf, by rw [henc, hlen]; rfl⟩
    case h_2 op _ _ b1 r hlen =>
      obtain ⟨rfl, rfl⟩ := Decoded.ok.inj h
      obtain ⟨hwf, henc⟩ := decodeOpcode_readsAs op b1 0
      exact ⟨hwf, by rw [henc, hlen, loByte_word]; rfl⟩
    case h_3 op _ _ b1 b2 r hlen =>
      obtain ⟨rfl, rfl⟩ := Decoded.ok.inj h
      obtain ⟨hwf, henc⟩ := decodeOpcode_readsAs op b1 b2
      exact ⟨hwf, by rw [henc, hlen, loByte_word, hiByte_word]; rfl⟩
    case h_4 => cases h

/-- Settles O1: each word by the length of its format; the table is looked up by evaluation. -/
theorem sampleWordsDecode : Obligations.SampleWordsDecode :=
  ⟨decode_of_length_one rfl [], decode_of_length_two rfl 0x42 [], decode_of_length_one rfl [],
    decode_of_length_three rfl 0x34 0x12 [], decode_of_length_three rfl 0x00 0xC1 [], decode_of_length_one rfl [],
    decode_of_length_two rfl 0x40 [], decode_of_length_one rfl [], decode_of_length_two rfl 0xFE [],
    decode_of_length_one rfl [], decode_cb 0x7C [], decode_cb 0x36 [], decode_cb 0xCB [],
    decode_of_length_three rfl 0x00 0x30 [], decode_of_length_one rfl [], decode_of_length_two rfl 0x00 [],
    decode_of_length_one rfl [], decode_of_length_one rfl []⟩

end Sys2Proof
end

