-- ==== Sys2Proof/Proofs/Effects.lean ====
section
/-! SUPPORT. What each instruction can do at all: the CPU's own moves, the stores it makes, and for each group of registers the table
of the instructions that change it (10_state.md R16 to R21; 20_memory.md R47).  The case split over the instructions is made here
once; the rules about the whole machine read their clause off it. -/

namespace Sys2Proof.Machine

/-! ### Moves of the CPU's own state -/

/-- The CPU's own state moves, and nothing behind the bus does. -/
structure CpuMove (s t : State) : Prop where
  frame : t = { s with a := t.a, b := t.b, c := t.c, d := t.d, e := t.e, h := t.h, l := t.l, fZ := t.fZ, fN := t.fN,
                       fH := t.fH, fC := t.fC, sp := t.sp, pc := t.pc, ime := t.ime, eiPending := t.eiPending,
                       mode := t.mode, haltBug := t.haltBug, cycles := t.cycles, free := t.free, events := t.events }
  haltBug : t.haltBug = true → s.haltBug = true ∨ s.cfg.haltPolicy = .bug

theorem CpuMove.refl (s : State) : CpuMove s s := ⟨rfl, .inl⟩

theorem CpuMove.cfg {s t : State} (h : CpuMove s t) : t.cfg = s.cfg := by rw [h.frame]

theorem CpuMove.bootActive {s t : State} (h : CpuMove s t) : t.bootActive = s.bootActive := by rw [h.frame]

theorem CpuMove.trans {s t u : State} (h : CpuMove s t) (h' : CpuMove t u) : CpuMove s u where
  frame := by rw [h'.frame, h.frame]
  haltBug hu := by
    rcases h'.haltBug hu with ht | hp
    · exact h.haltBug ht
    · exact .inr (by rw [← h.cfg]; exact hp)

/-- The invariant rests on nothing the CPU moves but `halt_bug`. -/
theorem CpuMove.inv {s t : State} (h : CpuMove s t) (hi : s.Inv) : t.Inv := by
  have f := h.frame
  have base : State.Inv { t with haltBug := s.haltBug } :=
    hi.congr (by rw [f]) (by rw [f]) (by rw [f]) (by rw [f]) (by rw [f]) (by rw [f]) (by rw [f]) (by rw [f]) (by rw [f])
      (by rw [f]) (by rw [f]) rfl
  refine { base with haltBug := fun ht => ?_ }
  rw [h.cfg]
  rcases h.haltBug ht with hs | hp
  · exact hi.haltBug hs
  · exact hp

theorem CpuMove.byteAt_eq {s t : State} (h : CpuMove s t) (b : Word) : byteAt t b = byteAt s b := by
  rw [h.frame]
  rfl

/-- Only the seven cells, the flags and the counters move: PC, SP, interrupt state and mode stay. -/
structure RegisterMove (s t : State) : Prop where
  frame : t = { s with a := t.a, b := t.b, c := t.c, d := t.d, e := t.e, h := t.h, l := t.l, fZ := t.fZ, fN := t.fN,
                       fH := t.fH, fC := t.fC, cycles := t.cycles, free := t.free }

theorem RegisterMove.trans {s t u : State} (h : RegisterMove s t) (h' : RegisterMove t u) : RegisterMove s u :=
  ⟨by rw [h'.frame, h.frame]⟩

theorem RegisterMove.cpu {s t : State} (h : RegisterMove s t) : CpuMove s t :=
  ⟨by rw [h.frame], fun ht => .inl (by rw [h.frame] at ht; exact ht)⟩

theorem RegisterMove.setReg (r : Reg8) (v : Byte) (s : State) : RegisterMove s (s.setReg r v) := by
  cases r <;> exact ⟨rfl⟩

theorem RegisterMove.setAluFlags (o : AluOut) (s : State) : RegisterMove s (s.setAluFlags o) := ⟨rfl⟩

theorem RegisterMove.took (n : Nat) (s : State) : RegisterMove s (s.took n) := ⟨rfl⟩

theorem RegisterMove.countRead (s : State) : RegisterMove s s.countRead := ⟨rfl⟩

theorem RegisterMove.operandRead (x : Operand8) (s : State) : RegisterMove s (operandRead x s) := by cases x <;> exact ⟨rfl⟩

/-! ### The stores of an instruction -/

/-- From `s` to `t` the CPU moves, and every byte it writes goes to an address of the list. -/
inductive Stores (targets : List Word) : State → State → Prop where
  | done {s t : State} (hmove : CpuMove s t) : Stores targets s t
  | store {s r t : State} {a : Word} (v : Byte) (ha : a ∈ targets) (hmove : CpuMove s r)
      (hrest : Stores targets (writeByte a v r) t) : Stores targets s t

theorem Stores.after {targets : List Word} {s r t : State} (hmove : CpuMove s r) : Stores targets r t → Stores targets s t
  | .done h => .done (hmove.trans h)
  | .store v ha h hrest => .store v ha (hmove.trans h) hrest

theorem Stores.then {targets : List Word} {s r t : State} (h : Stores targets s r) (hmove : CpuMove r t) :
    Stores targets s t := by
  induction h with
  | done h => exact .done (h.trans hmove)
  | store v ha h _ ih => exact .store v ha h (ih hmove)

theorem Stores.one {targets : List Word} {a : Word} (ha : a ∈ targets) (v : Byte) (s : State) :
    Stores targets s (writeByte a v s) := .store v ha (.refl s) (.done (.refl _))

theorem Stores.inv {targets : List Word} {s t : State} (h : Stores targets s t) (hi : s.Inv) : t.Inv := by
  induction h with
  | done h => exact h.inv hi
  | store v _ h _ ih => exact ih (writeByte_inv _ v _ (h.inv hi))

/-- What none of the addresses reaches is read as before (20_memory.md R43, R48). -/
theorem Stores.byteAt_eq {targets : List Word} {s t : State} (h : Stores targets s t) (hi : s.Inv) {b : Word}
    (hb : ∀ a ∈ targets, storeReaches a b = false) : byteAt t b = byteAt s b := by
  induction h with
  | done h => exact h.byteAt_eq b
  | store v ha h _ ih =>
    rw [ih (writeByte_inv _ v _ (h.inv hi)), byteAt_writeByte _ b v _ (h.inv hi) (hb _ ha), h.byteAt_eq]

theorem Stores.cfg {targets : List Word} {s t : State} (h : Stores targets s t) : t.cfg = s.cfg := by
  induction h with
  | done h => exact h.cfg
  | store v _ h _ ih => rw [ih, writeByte_cfg, h.cfg]

/-- A byte write never makes the overlay active (20_memory.md R59). -/
theorem writeByte_bootActive (a : Word) (v : Byte) (s : State) (h : s.bootActive = false) :
    (writeByte a v s).bootActive = false := by
  unfold writeByte
  split
  case h_1 => rw [mapperWrite_eq]; exact h
  case h_2 => rw [mapperWrite_eq]; exact h
  case h_4 => unfold cartRamWrite; split <;> exact h
  case h_8 r _ =>
    by_cases hr : r = .bootOff
    · subst hr
      simp only [ioWrite]
      split
      · exact h
      · rfl
    · obtain ⟨-, -, -, -, -, -, -, -, hboot⟩ := ioWrite_memories r a v s
      rw [hboot hr, h]
  all_goals exact h

theorem Stores.bootActive {targets : List Word} {s t : State} (h : Stores targets s t) (hs : s.bootActive = false) :
    t.bootActive = false := by
  induction h with
  | done h => rw [h.bootActive, hs]
  | store v _ h _ ih => exact ih (writeByte_bootActive _ v _ (by rw [h.bootActive, hs]))

theorem push16_stores (v : Word) (s : State) : Stores (stackTargets s) s (push16 v s) :=
  .store (r := { s with sp := s.sp - 2 }) (hiByte v) List.mem_cons_self ⟨rfl, .inl⟩
    (.one (List.mem_cons_of_mem _ List.mem_cons_self) (loByte v) _)

theorem operandWrite_stores {targets : List Word} (x : Operand8) (v : Byte) (s : State) (ha : x = .mhl → s.hl ∈ targets) :
    Stores targets s (operandWrite x v s) := by
  cases x with
  | reg r => exact .done (RegisterMove.setReg r v s).cpu
  | mhl => exact .one (ha rfl) v s

section
variable {targets : List Word} (x : Operand8) (s : State) (ha : x = .mhl → s.hl ∈ targets)
include ha

theorem operandReadWrite_stores (v : Byte) : Stores targets s (operandWrite x v (operandRead x s)) :=
  .after (RegisterMove.operandRead x s).cpu (operandWrite_stores x v _ (by rw [operandRead_hl]; exact ha))

theorem rotateOperand_stores (op : RotOp) : Stores targets s (rotateOperand op x s) :=
  (operandReadWrite_stores x s ha _).then ⟨rfl, .inl⟩

theorem resetBit_stores (b : BitIndex) : Stores targets s (resetBit b x s) :=
  (operandReadWrite_stores x s ha _).then ⟨rfl, .inl⟩

theorem setBit_stores (b : BitIndex) : Stores targets s (setBit b x s) :=
  (operandReadWrite_stores x s ha _).then ⟨rfl, .inl⟩

end

theorem testBit_move (b : BitIndex) (x : Operand8) (s : State) : RegisterMove s (testBit b x s) :=
  (RegisterMove.operandRead x s).trans ⟨rfl⟩

/-- An entry of the CB table stores to HL when its operand is `(HL)` and it is no `BIT` (R194, R203). -/
theorem cbEntry_stores {targets : List Word} (op2 : Byte) (s : State)
    (ha : op2.toNat % 8 = 6 ∧ op2.toNat / 64 ≠ 1 → s.hl ∈ targets) : Stores targets s (cbEntry op2 s) := by
  have hz : op2.toNat % 8 < 8 := Nat.mod_lt _ (by decide)
  have hmhl : r8 (op2.toNat % 8) = .mhl → op2.toNat % 8 = 6 := fun h => by rw [← operandIndex_r8 hz, h]; rfl
  have hmem (hx : op2.toNat / 64 ≠ 1) (h : r8 (op2.toNat % 8) = .mhl) : s.hl ∈ targets := ha ⟨hmhl h, hx⟩
  unfold cbEntry
  dsimp only
  split
  case h_1 hx => exact rotateOperand_stores _ s (hmem (by rw [hx]; decide)) _
  case h_2 => exact .done (testBit_move _ _ s).cpu
  case h_3 hx => exact resetBit_stores _ s (hmem (by rw [hx]; decide)) _
  case h_4 hx _ => exact setBit_stores _ s (hmem hx) _

end Sys2Proof.Machine
end

