-- ==== Sys2Proof/Proofs/Summary.lean ====
section
/-! SUPPORT. What one instruction does, in one record: its cycles, its stores, and a clause for each group of registers, which is kept or
changed by a named row (10_state.md R16 to R21).  Every instruction but HALT in its refused case completes so. -/

namespace Sys2Proof.Machine

/-! ### What most instructions keep -/

/-- PC, SP, the interrupt state and the mode stay. -/
structure ControlKept (s t : State) : Prop where
  pc : t.pc = s.pc
  sp : t.sp = s.sp
  ime : t.ime = s.ime
  eiPending : t.eiPending = s.eiPending
  mode : t.mode = s.mode
  haltBug : t.haltBug = s.haltBug

/-- The four flags stay. -/
def FlagsKept (s t : State) : Prop := t.fZ = s.fZ ∧ t.fN = s.fN ∧ t.fH = s.fH ∧ t.fC = s.fC

theorem RegisterMove.control {s t : State} (h : RegisterMove s t) : ControlKept s t := by
  rw [h.frame]
  exact ⟨rfl, rfl, rfl, rfl, rfl, rfl⟩

theorem ControlKept.trans {s t u : State} (h : ControlKept s t) (h' : ControlKept t u) : ControlKept s u :=
  ⟨h'.pc.trans h.pc, h'.sp.trans h.sp, h'.ime.trans h.ime, h'.eiPending.trans h.eiPending, h'.mode.trans h.mode,
    h'.haltBug.trans h.haltBug⟩

theorem writeByte_control (a : Word) (v : Byte) (s : State) : ControlKept s (writeByte a v s) := by
  constructor <;> simp

theorem writeByte_flags (a : Word) (v : Byte) (s : State) : FlagsKept s (writeByte a v s) := by simp [FlagsKept]

theorem setReg_flags (r : Reg8) (v : Byte) (s : State) : FlagsKept s (s.setReg r v) := by simp [FlagsKept]

theorem push16_flags (v : Word) (s : State) : FlagsKept s (push16 v s) := by simp [FlagsKept]

theorem operandReadWrite_control (x : Operand8) (v : Byte) (s : State) :
    ControlKept s (operandWrite x v (operandRead x s)) := by
  cases x with
  | reg r => exact (RegisterMove.setReg r v s).control
  | mhl => exact (RegisterMove.countRead s).control.trans (writeByte_control _ v _)

theorem operandReadWrite_flags (x : Operand8) (v : Byte) (s : State) : FlagsKept s (operandWrite x v (operandRead x s)) := by
  cases x with
  | reg r => exact setReg_flags r v s
  | mhl => exact writeByte_flags _ v s.countRead

/-- An entry of the CB table moves neither PC nor SP, interrupt state or mode. -/
theorem cbEntry_control (op2 : Byte) (s : State) : ControlKept s (cbEntry op2 s) := by
  unfold cbEntry
  dsimp only
  split
  · exact (operandReadWrite_control _ _ s).trans ⟨rfl, rfl, rfl, rfl, rfl, rfl⟩
  · exact (testBit_move _ _ s).control
  · exact (operandReadWrite_control _ _ s).trans ⟨rfl, rfl, rfl, rfl, rfl, rfl⟩
  · exact (operandReadWrite_control _ _ s).trans ⟨rfl, rfl, rfl, rfl, rfl, rfl⟩

/-! ### Cycle counts -/

/-- A multiple of 4 from 4 to 24 (70_reset_and_hazards.md R345). -/
def CyclesInRange (n : Nat) : Prop := n % 4 = 0 ∧ 4 ≤ n ∧ n ≤ 24

theorem inRange4 : CyclesInRange 4 := ⟨rfl, by decide, by decide⟩
theorem inRange8 : CyclesInRange 8 := ⟨rfl, by decide, by decide⟩
theorem inRange12 : CyclesInRange 12 := ⟨rfl, by decide, by decide⟩
theorem inRange16 : CyclesInRange 16 := ⟨rfl, by decide, by decide⟩
theorem inRange20 : CyclesInRange 20 := ⟨rfl, by decide, by decide⟩
theorem inRange24 : CyclesInRange 24 := ⟨rfl, by decide, by decide⟩

theorem cbCycles_inRange (x : Operand8) {mem : Nat} (h : CyclesInRange mem) : CyclesInRange (cbCycles x mem) := by
  cases x with
  | reg => exact inRange8
  | mhl => exact h

theorem cbEntry_inRange (op2 : Byte) (s : State) : CyclesInRange (cbEntry op2 s).cycles := by
  unfold cbEntry
  dsimp only
  split
  · exact cbCycles_inRange _ inRange16
  · exact cbCycles_inRange _ inRange12
  · exact cbCycles_inRange _ inRange16
  · exact cbCycles_inRange _ inRange16

/-! ### The rows that change something -/

/-- The rows of the flag table (10_state.md R16), and POP AF and 0xCB, whose flags are those popped or of the table's entry. -/
def FlagRow (i : Instr) (s t : State) : Prop :=
  (∃ op, ((∃ r, i = Form.aluReg op r) ∨ i = Form.aluMhl op ∨ (∃ n, i = Form.aluImm op n)) ∧
    t.fN = (op = .sub || op = .sbc || op = .cp) ∧
    (op = .and → t.fH = true ∧ t.fC = false) ∧ (op = .xor ∨ op = .or → t.fH = false ∧ t.fC = false)) ∨
  (((∃ r, i = Form.incReg r) ∨ i = .inc_mhl) ∧ t.fN = false ∧ t.fC = s.fC) ∨
  (((∃ r, i = Form.decReg r) ∨ i = .dec_mhl) ∧ t.fN = true ∧ t.fC = s.fC) ∨
  (i = .daa ∧ t.fN = s.fN ∧ t.fH = false) ∨
  (i = .cpl ∧ t.fZ = s.fZ ∧ t.fN = true ∧ t.fH = true ∧ t.fC = s.fC) ∨
  (i = .scf ∧ t.fZ = s.fZ ∧ t.fN = false ∧ t.fH = false ∧ t.fC = true) ∨
  (i = .ccf ∧ t.fZ = s.fZ ∧ t.fN = false ∧ t.fH = false ∧ t.fC = !s.fC) ∨
  ((∃ p, i = Form.addHlPair p) ∧ t.fZ = s.fZ ∧ t.fN = false) ∨
  (((∃ e, i = .add_sp_e e) ∨ (∃ e, i = .ld_hl_sp_e e)) ∧ t.fZ = false ∧ t.fN = false) ∨
  ((∃ op, i = Form.accRot op) ∧ t.fZ = false ∧ t.fN = false ∧ t.fH = false) ∨
  (∃ op x, i = Form.rot op x ∧ t.fN = false ∧ t.fH = false ∧ (op = .swap → t.fC = false)) ∨
  ((∃ b x, i = Form.bit b x) ∧ t.fN = false ∧ t.fH = true ∧ t.fC = s.fC) ∨
  i = .pop_af ∨
  i = .prefix_cb

/-- The control transfers, which alone move PC beyond the fetch (10_state.md R17). -/
def ControlTransfer (i : Instr) : Prop :=
  (∃ nn, i = .jp_nn nn) ∨ (∃ cc nn, i = Form.jpCond cc nn) ∨ i = .jp_hl ∨ (∃ e, i = .jr_e e) ∨
  (∃ cc e, i = Form.jrCond cc e) ∨ (∃ nn, i = .call_nn nn) ∨ (∃ cc nn, i = Form.callCond cc nn) ∨ i = .ret ∨
  (∃ cc, i = Form.retCond cc) ∨ i = .reti ∨ (∃ y, i = Form.rst y)

/-- The instructions that move SP (10_state.md R18). -/
def MovesSp (i : Instr) : Prop :=
  (∃ nn, i = .ld_sp_nn nn) ∨ i = .ld_sp_hl ∨ (∃ e, i = .add_sp_e e) ∨ i = .inc_sp ∨ i = .dec_sp ∨
  (∃ p, i = Form.push p) ∨ (∃ p, i = Form.pop p) ∨ (∃ nn, i = .call_nn nn) ∨ (∃ cc nn, i = Form.callCond cc nn) ∨
  i = .ret ∨ (∃ cc, i = Form.retCond cc) ∨ i = .reti ∨ (∃ y, i = Form.rst y)

/-- The instructions that touch IME and `ei_pending` (10_state.md R19, R20). -/
def ImeRow (i : Instr) (s t : State) : Prop :=
  (i = .di ∧ t.ime = false ∧ t.eiPending = false) ∨
  (i = .ei ∧ t.ime = s.ime ∧ t.eiPending = true) ∨
  (i = .reti ∧ t.ime = true ∧ t.eiPending = false)

/-- The instructions that change the mode (10_state.md R21). -/
def ModeRow (i : Instr) (t : State) : Prop :=
  (i = .halt ∧ t.mode = .halted) ∨ (∃ n, i = .stop n ∧ t.mode = .stopped) ∨ (∃ op, i = .unmapped op ∧ t.mode = .faulted)

/-- HALT sets `halt_bug` in its case 3 under the parameter `bug` (46_system.md R241). -/
def HaltBugRow (i : Instr) (s t : State) : Prop :=
  i = .halt ∧ s.cfg.haltPolicy = .bug ∧ s.ime = false ∧ pending s ≠ 0 ∧ t.haltBug = true

/-! ### The record -/

/-- What the instruction `i` did from `s` to `t`. -/
structure Effect (i : Instr) (s t : State) : Prop where
  cycles : (∀ op, i ≠ .unmapped op) → CyclesInRange t.cycles
  stores : (∀ n, i ≠ .stop n) → Stores (storeTargets i s) s t
  flags : FlagsKept s t ∨ FlagRow i s t
  pc : t.pc = s.pc ∨ (i = .prefix_cb ∧ t.pc = s.pc + 1) ∨ ControlTransfer i
  sp : t.sp = s.sp ∨ MovesSp i
  ime : (t.ime = s.ime ∧ t.eiPending = s.eiPending) ∨ ImeRow i s t
  mode : t.mode = s.mode ∨ ModeRow i t
  haltBug : t.haltBug = s.haltBug ∨ HaltBugRow i s t

/-- An instruction that only handles data. -/
theorem Effect.ofControlKept {i : Instr} {s t : State} (h : ControlKept s t) (cycles : CyclesInRange t.cycles)
    (stores : Stores (storeTargets i s) s t) (flags : FlagsKept s t ∨ FlagRow i s t) : Effect i s t :=
  ⟨fun _ => cycles, fun _ => stores, flags, .inl h.pc, .inl h.sp, .inl ⟨h.ime, h.eiPending⟩, .inl h.mode, .inl h.haltBug⟩

/-- An instruction that only handles registers. -/
theorem Effect.ofRegisterMove {i : Instr} {s t : State} (h : RegisterMove s t) (cycles : CyclesInRange t.cycles)
    (flags : FlagsKept s t ∨ FlagRow i s t) : Effect i s t := .ofControlKept h.control cycles (.done h.cpu) flags

/-- An instruction that only writes one byte. -/
theorem Effect.ofStore {i : Instr} {s : State} {a : Word} (ha : a ∈ storeTargets i s) (v : Byte) {n : Nat}
    (cycles : CyclesInRange n) : Effect i s (storeMem a v n s) :=
  .ofControlKept ((writeByte_control a v s).trans ⟨rfl, rfl, rfl, rfl, rfl, rfl⟩) cycles
    ((Stores.one ha v s).then ⟨rfl, .inl⟩) (.inl (writeByte_flags a v s))

/-- The instruction answers a next state, and this is its effect. -/
def Completes (i : Instr) (s : State) : Prop := ∃ t, exec i s = .next t ∧ Effect i s t

end Sys2Proof.Machine
end

