-- ==== Sys2Proof/Proofs/Completes.lean ====
section
/-! SUPPORT. Every instruction completes with its effect: the case split over the table, one alternative for each family and row
(30_encoding.md R98 to R100; 60_exceptions.md R251; 70_reset_and_hazards.md R345). -/

namespace Sys2Proof.Machine

/-! ### The shared operations -/

theorem aluApply_move (op : AluOp) (y : Byte) (cyc : Nat) (s : State) : RegisterMove s (aluApply op y cyc s) := ⟨rfl⟩

theorem stepReg_move (r : Reg8) (o : AluOut) (s : State) : RegisterMove s (stepReg r o s) :=
  (RegisterMove.setReg r o.r s).trans ⟨rfl⟩

theorem loadRegMem_move (r : Reg8) (a : Word) (cyc : Nat) (s : State) : RegisterMove s (loadRegMem r a cyc s) :=
  (RegisterMove.countRead s).trans ((RegisterMove.setReg r _ _).trans (.took cyc _))

/-- The flags an accumulator operation writes (R16), whichever its operand. -/
theorem aluOut_flags (op : AluOp) (x y : Byte) (c : Bool) :
    (aluOut op x y c).n = (op = .sub || op = .sbc || op = .cp) ∧
    (op = .and → (aluOut op x y c).h = true ∧ (aluOut op x y c).c = false) ∧
    (op = .xor ∨ op = .or → (aluOut op x y c).h = false ∧ (aluOut op x y c).c = false) := by
  refine ⟨by cases op <;> rfl, ?_, ?_⟩
  · rintro rfl
    exact ⟨rfl, rfl⟩
  · rintro (rfl | rfl) <;> exact ⟨rfl, rfl⟩

theorem daaOut_flags (x : Byte) (n h c : Bool) : (daaOut x n h c).n = n ∧ (daaOut x n h c).h = false := by
  cases n <;> exact ⟨rfl, rfl⟩

theorem rotOut_flags (op : RotOp) (v : Byte) (c : Bool) :
    (rotOut op v c).n = false ∧ (rotOut op v c).h = false ∧ (op = .swap → (rotOut op v c).c = false) := by
  refine ⟨by cases op <;> rfl, by cases op <;> rfl, ?_⟩
  rintro rfl
  rfl

theorem accRotOut_flags (op : AccRotOp) (v : Byte) (c : Bool) :
    (accRotOut op v c).z = false ∧ (accRotOut op v c).n = false ∧ (accRotOut op v c).h = false := by
  cases op <;> exact ⟨rfl, rfl, rfl⟩

/-- `INC (HL)` and `DEC (HL)` write back where they read (20_memory.md R47). -/
theorem stepMhl_effect {i : Instr} {s : State} {o : AluOut} (ha : s.hl ∈ storeTargets i s)
    (hflags : FlagRow i s (stepMhl o s)) : Effect i s (stepMhl o s) :=
  .ofControlKept ((operandReadWrite_control .mhl o.r s).trans ⟨rfl, rfl, rfl, rfl, rfl, rfl⟩) inRange12
    ((operandReadWrite_stores .mhl s (fun _ => ha) o.r).then ⟨rfl, .inl⟩) (.inr hflags)

theorem storeAMove_effect {i : Instr} {s : State} (ha : s.hl ∈ storeTargets i s) (delta : Word) :
    Effect i s (storeAMove delta s) :=
  .ofControlKept ((writeByte_control s.hl s.a s).trans ⟨rfl, rfl, rfl, rfl, rfl, rfl⟩) inRange8
    ((Stores.one ha s.a s).then ⟨rfl, .inl⟩) (.inl (writeByte_flags s.hl s.a s))

/-- A jump that is not taken only counts its cycles. -/
theorem took_effect (i : Instr) (s : State) {n : Nat} (hn : CyclesInRange n) : Effect i s (s.took n) :=
  .ofRegisterMove (.took n s) hn (.inl ⟨rfl, rfl, rfl, rfl⟩)

theorem jumpTo_effect {i : Instr} (hi : ControlTransfer i) (v : Word) {cyc : Nat} (hc : CyclesInRange cyc) (s : State) :
    Effect i s (jumpTo v cyc s) :=
  ⟨fun _ => hc, fun _ => .done ⟨rfl, .inl⟩, .inl ⟨rfl, rfl, rfl, rfl⟩, .inr (.inr hi), .inl rfl, .inl ⟨rfl, rfl⟩, .inl rfl,
    .inl rfl⟩

theorem jumpIf_effect {i : Instr} (hi : ControlTransfer i) (cc : Cond) (v : Word) {taken notTaken : Nat}
    (ht : CyclesInRange taken) (hn : CyclesInRange notTaken) (s : State) : Effect i s (jumpIf cc v taken notTaken s) := by
  unfold jumpIf
  split
  · exact jumpTo_effect hi v ht s
  · exact took_effect i s hn

theorem callTo_effect {i : Instr} {s : State} (hi : ControlTransfer i) (hsp : MovesSp i)
    (ha : storeTargets i s = stackTargets s) (v : Word) {cyc : Nat} (hc : CyclesInRange cyc) :
    Effect i s (callTo v cyc s) where
  cycles _ := hc
  stores _ := ha ▸ (push16_stores s.pc s).then ⟨rfl, .inl⟩
  flags := .inl (push16_flags s.pc s)
  pc := .inr (.inr hi)
  sp := .inr hsp
  ime := .inl ⟨push16_ime s.pc s, push16_eiPending s.pc s⟩
  mode := .inl (push16_mode s.pc s)
  haltBug := .inl (push16_haltBug s.pc s)

theorem returnFrom_effect {i : Instr} (hi : ControlTransfer i) (hsp : MovesSp i) {cyc : Nat} (hc : CyclesInRange cyc)
    (s : State) : Effect i s (returnFrom cyc s) := by
  rw [returnFrom_eq]
  generalize word _ _ = v
  exact ⟨fun _ => hc, fun _ => .done ⟨rfl, .inl⟩, .inl ⟨rfl, rfl, rfl, rfl⟩, .inr (.inr hi), .inr hsp, .inl ⟨rfl, rfl⟩,
    .inl rfl, .inl rfl⟩

/-- RETI returns, and has its row for IME (R230). -/
theorem reti_completes (s : State) : Completes .reti s := by
  refine ⟨_, congrArg Host.Outcome.next (returnFromInterrupt_took 16 s), ?_⟩
  rw [returnFrom_eq]
  generalize word _ _ = v
  refine ⟨fun _ => inRange16, fun _ => .done ⟨rfl, .inl⟩, .inl ⟨rfl, rfl, rfl, rfl⟩, .inr (.inr ?pc), .inr ?sp,
    .inr (.inr (.inr ⟨rfl, rfl, rfl⟩)), .inl rfl, .inl rfl⟩
  case pc =>
    unfold ControlTransfer
    iterate 9 right
    exact .inl rfl
  case sp =>
    unfold MovesSp
    iterate 11 right
    exact .inl rfl

theorem pushPair_effect {i : Instr} {s : State} (hsp : MovesSp i) (ha : storeTargets i s = stackTargets s) (p : StackPair) :
    Effect i s (pushPair p s) where
  cycles _ := inRange16
  stores _ := ha ▸ (push16_stores _ s).then ⟨rfl, .inl⟩
  flags := .inl (push16_flags _ s)
  pc := .inl (push16_pc _ s)
  sp := .inr hsp
  ime := .inl ⟨push16_ime _ s, push16_eiPending _ s⟩
  mode := .inl (push16_mode _ s)
  haltBug := .inl (push16_haltBug _ s)

/-- SP alone moves, and the flags if they have a row. -/
theorem setSp_effect {i : Instr} {s t : State} (hsp : MovesSp i) (hc : CyclesInRange t.cycles)
    (frame : t = { s with fZ := t.fZ, fN := t.fN, fH := t.fH, fC := t.fC, sp := t.sp, cycles := t.cycles })
    (flags : FlagsKept s t ∨ FlagRow i s t) : Effect i s t where
  cycles _ := hc
  stores _ := .done ⟨by rw [frame], fun h => .inl (by rw [frame] at h; exact h)⟩
  flags := flags
  pc := .inl (by rw [frame])
  sp := .inr hsp
  ime := .inl (by rw [frame]; exact ⟨rfl, rfl⟩)
  mode := .inl (by rw [frame])
  haltBug := .inl (by rw [frame])

/-- A pair moves: SP has its row, the others are cells. -/
theorem setPair_effect {i : Instr} (p : Pair16) (v : Word) {n : Nat} (hn : CyclesInRange n) (hsp : p = .sp → MovesSp i)
    (s : State) : Effect i s ((s.setPair p v).took n) := by
  cases p with
  | sp => exact setSp_effect (hsp rfl) hn rfl (.inl ⟨rfl, rfl, rfl, rfl⟩)
  | bc | de | hl => exact .ofRegisterMove ⟨rfl⟩ hn (.inl ⟨rfl, rfl, rfl, rfl⟩)

theorem popPair_effect {i : Instr} (hsp : MovesSp i) (p : StackPair) (hflags : p = .af → i = .pop_af) (s : State) :
    Effect i s (popPair p s) := by
  rw [popPair_eq]
  generalize word _ _ = v
  cases p with
  | bc | de | hl =>
    exact ⟨fun _ => inRange12, fun _ => .done ⟨rfl, .inl⟩, .inl ⟨rfl, rfl, rfl, rfl⟩, .inl rfl, .inr hsp, .inl ⟨rfl, rfl⟩,
      .inl rfl, .inl rfl⟩
  | af =>
    refine ⟨fun _ => inRange12, fun _ => .done ⟨rfl, .inl⟩, .inr ?flags, .inl rfl, .inr hsp, .inl ⟨rfl, rfl⟩, .inl rfl, .inl rfl⟩
    unfold FlagRow
    iterate 12 right
    exact .inl (hflags rfl)

/-- HALT in the three cases of 46_system.md R241, but for the refused one. -/
theorem halt_completes (s : State) (h : s.ime = true ∨ pending s = 0 ∨ s.cfg.haltPolicy ≠ .refuse) : Completes .halt s := by
  by_cases hcase : s.ime = true ∨ pending s = 0
  · exact ⟨_, if_pos hcase,
      ⟨fun _ => inRange4, fun _ => .done ⟨rfl, .inl⟩, .inl ⟨rfl, rfl, rfl, rfl⟩, .inl rfl, .inl rfl, .inl ⟨rfl, rfl⟩,
        .inr (.inl ⟨rfl, rfl⟩), .inl rfl⟩⟩
  · obtain ⟨hime, hp⟩ := not_or.mp hcase
    have hexec : exec .halt s = _ := if_neg hcase
    cases hpol : s.cfg.haltPolicy with
    | refuse => exact absurd hpol (h.resolve_left hime |>.resolve_left hp)
    | fallthrough => rw [hpol] at hexec; exact ⟨_, hexec, took_effect _ s inRange4⟩
    | bug =>
      rw [hpol] at hexec
      exact ⟨_, hexec,
        ⟨fun _ => inRange4, fun _ => .done ⟨rfl, fun _ => .inr hpol⟩, .inl ⟨rfl, rfl, rfl, rfl⟩, .inl rfl, .inl rfl,
          .inl ⟨rfl, rfl⟩, .inl rfl, .inr ⟨rfl, hpol, by simpa using hime, hp, rfl⟩⟩⟩

/-! ### Every instruction -/

/-- The first row of the flag table, for the three operand forms of the accumulator operations. -/
theorem flagRow_alu {i : Instr} {s t : State} (op : AluOp) (x y : Byte) (c : Bool)
    (hi : (∃ r, i = Form.aluReg op r) ∨ i = Form.aluMhl op ∨ ∃ n, i = Form.aluImm op n)
    (hN : t.fN = (aluOut op x y c).n) (hH : t.fH = (aluOut op x y c).h) (hC : t.fC = (aluOut op x y c).c) :
    FlagRow i s t := by
  rw [FlagRow, hN, hH, hC]
  exact .inl ⟨op, hi, aluOut_flags op x y c⟩

theorem storeTargets_prefix (s : State) :
    storeTargets .prefix_cb s =
      if (readByte s s.pc).toNat % 8 = 6 ∧ (readByte s s.pc).toNat / 64 ≠ 1 then [s.hl] else [] := rfl

/-- The low byte goes to `nn`, the high byte one above (41_load16_stack.md R141). -/
theorem ld_mnn_sp_completes (nn : Word) (s : State) : Completes (.ld_mnn_sp nn) s := by
  have hlow := writeByte_control nn (loByte s.sp) s
  have hhigh := writeByte_control (nn + 1) (hiByte s.sp) (writeByte nn (loByte s.sp) s)
  refine ⟨_, rfl, .ofControlKept (hlow.trans (hhigh.trans ⟨rfl, rfl, rfl, rfl, rfl, rfl⟩)) inRange20 ?_ (.inl ?_)⟩
  · exact .store _ List.mem_cons_self (.refl s)
      ((Stores.one (List.mem_cons_of_mem _ List.mem_cons_self) _ _).then ⟨rfl, .inl⟩)
  · simp [FlagsKept, writeWord]

theorem rot_completes (op : RotOp) (x : Operand8) (s : State) : Completes (Form.rot op x) s := by
  refine ⟨_, exec_rot op x s, .ofControlKept ((operandReadWrite_control x _ s).trans ⟨rfl, rfl, rfl, rfl, rfl, rfl⟩)
    (cbCycles_inRange x inRange16) (rotateOperand_stores x s ?_ op) (.inr ?_)⟩
  · rintro rfl
    rw [storeTargets_rot]
    exact List.mem_cons_self
  · unfold FlagRow
    iterate 10 right
    exact .inl ⟨op, x, rfl, rotOut_flags op _ _⟩

theorem bit_completes (b : BitIndex) (x : Operand8) (s : State) : Completes (Form.bit b x) s := by
  refine ⟨_, exec_bit b x s, .ofRegisterMove (testBit_move b x s) (cbCycles_inRange x inRange12) (.inr ?_)⟩
  unfold FlagRow
  iterate 11 right
  exact .inl ⟨⟨b, x, rfl⟩, rfl, rfl, rfl⟩

theorem res_completes (b : BitIndex) (x : Operand8) (s : State) : Completes (Form.res b x) s := by
  refine ⟨_, exec_res b x s, .ofControlKept ((operandReadWrite_control x _ s).trans ⟨rfl, rfl, rfl, rfl, rfl, rfl⟩)
    (cbCycles_inRange x inRange16) (resetBit_stores x s ?_ b) (.inl (operandReadWrite_flags x _ s))⟩
  rintro rfl
  rw [storeTargets_res]
  exact List.mem_cons_self

theorem set_completes (b : BitIndex) (x : Operand8) (s : State) : Completes (Form.set b x) s := by
  refine ⟨_, exec_set b x s, .ofControlKept ((operandReadWrite_control x _ s).trans ⟨rfl, rfl, rfl, rfl, rfl, rfl⟩)
    (cbCycles_inRange x inRange16) (setBit_stores x s ?_ b) (.inl (operandReadWrite_flags x _ s))⟩
  rintro rfl
  rw [storeTargets_set]
  exact List.mem_cons_self

/-- The byte 0xCB fetches one byte and does what its entry does (46_system.md R245). -/
theorem prefix_completes (s : State) : Completes .prefix_cb s := by
  have hc := cbEntry_control (readByte s s.pc) (afterFetch s)
  refine ⟨_, exec_prefix s,
    ⟨fun _ => cbEntry_inRange _ _, fun _ => ?_, .inr ?_, .inr (.inl ⟨rfl, hc.pc⟩), .inl hc.sp, .inl ⟨hc.ime, hc.eiPending⟩,
      .inl hc.mode, .inl hc.haltBug⟩⟩
  · refine Stores.after (r := afterFetch s) ⟨rfl, .inl⟩ (cbEntry_stores _ _ fun h => ?_)
    rw [storeTargets_prefix, if_pos h]
    exact List.mem_cons_self
  · unfold FlagRow
    iterate 13 right
    rfl

theorem callCond_completes (cc : Cond) (nn : Word) (s : State) : Completes (Form.callCond cc nn) s := by
  refine ⟨_, exec_callCond cc nn s, ?_⟩
  unfold callIf
  split
  case isTrue hcc =>
    refine callTo_effect ?_ ?_ (by rw [storeTargets_callCond, if_pos hcc]) nn inRange24
    · exact .inr (.inr (.inr (.inr (.inr (.inr (.inl ⟨cc, nn, rfl⟩))))))
    · exact .inr (.inr (.inr (.inr (.inr (.inr (.inr (.inr (.inl ⟨cc, nn, rfl⟩))))))))
  case isFalse => exact took_effect _ s inRange12

theorem retCond_completes (cc : Cond) (s : State) : Completes (Form.retCond cc) s := by
  refine ⟨_, exec_retCond cc s, ?_⟩
  unfold returnIf
  split
  case isTrue =>
    refine returnFrom_effect ?_ ?_ inRange20 s
    · unfold ControlTransfer
      iterate 8 right
      exact .inl ⟨cc, rfl⟩
    · unfold MovesSp
      iterate 10 right
      exact .inl ⟨cc, rfl⟩
  case isFalse => exact took_effect _ s inRange8

theorem rst_completes (y : RstIndex) (s : State) : Completes (Form.rst y) s := by
  refine ⟨_, exec_rst y s, callTo_effect ?_ ?_ (storeTargets_rst y s) _ inRange16⟩
  · unfold ControlTransfer
    iterate 10 right
    exact ⟨y, rfl⟩
  · unfold MovesSp
    iterate 12 right
    exact ⟨y, rfl⟩

/-- R251: no instruction ends otherwise than with its effect, but HALT in case 3 under `refuse`. -/
theorem instr_completes (i : Instr) (s : State)
    (hhalt : i = .halt → s.ime = true ∨ pending s = 0 ∨ s.cfg.haltPolicy ≠ .refuse) : Completes i s := by
  cases i using instr_cases with
  -- data between registers and from memory
  | h_ldRegReg x y =>
    exact ⟨_, exec_ldRegReg x y s, .ofRegisterMove ((RegisterMove.setReg x _ s).trans ⟨rfl⟩) inRange4
      (.inl (setReg_flags x _ s))⟩
  | h_ldRegImm x n =>
    exact ⟨_, exec_ldRegImm x n s, .ofRegisterMove ((RegisterMove.setReg x n s).trans ⟨rfl⟩) inRange8
      (.inl (setReg_flags x n s))⟩
  | h_ldRegMhl x =>
    exact ⟨_, exec_ldRegMhl x s, .ofRegisterMove (loadRegMem_move x s.hl 8 s) inRange8
      (.inl (setReg_flags x _ s.countRead))⟩
  | h_ldPairImm p nn =>
    exact ⟨_, exec_ldPairImm p nn s, setPair_effect p nn inRange12 (by rintro rfl; exact .inl ⟨nn, rfl⟩) s⟩
  | h_ld_a_mbc | h_ld_a_mde | h_ldh_a_mc | h_ld_a_mhli | h_ld_a_mhld =>
    exact ⟨_, rfl, .ofRegisterMove ⟨rfl⟩ inRange8 (.inl ⟨rfl, rfl, rfl, rfl⟩)⟩
  | h_ldh_a_mn n => exact ⟨_, rfl, .ofRegisterMove ⟨rfl⟩ inRange12 (.inl ⟨rfl, rfl, rfl, rfl⟩)⟩
  | h_ld_a_mnn nn => exact ⟨_, rfl, .ofRegisterMove ⟨rfl⟩ inRange16 (.inl ⟨rfl, rfl, rfl, rfl⟩)⟩
  | h_ld_sp_hl => exact ⟨_, rfl, setSp_effect (.inr (.inl rfl)) inRange8 rfl (.inl ⟨rfl, rfl, rfl, rfl⟩)⟩
  | h_ld_hl_sp_e e =>
    refine ⟨_, rfl, .ofRegisterMove ⟨rfl⟩ inRange12 (.inr ?_)⟩
    unfold FlagRow
    iterate 8 right
    exact .inl ⟨.inr ⟨e, rfl⟩, rfl, rfl⟩
  -- stores
  | h_ldMhlReg x =>
    exact ⟨_, exec_ldMhlReg x s, .ofStore (by rw [storeTargets_ldMhlReg]; exact List.mem_cons_self) _ inRange8⟩
  | h_ld_mbc_a | h_ld_mde_a | h_ldh_mc_a => exact ⟨_, rfl, .ofStore List.mem_cons_self _ inRange8⟩
  | h_ld_mhl_n n | h_ldh_mn_a n => exact ⟨_, rfl, .ofStore List.mem_cons_self _ inRange12⟩
  | h_ld_mnn_a nn => exact ⟨_, rfl, .ofStore List.mem_cons_self _ inRange16⟩
  | h_ld_mhli_a | h_ld_mhld_a => exact ⟨_, rfl, storeAMove_effect List.mem_cons_self _⟩
  | h_ld_mnn_sp nn => exact ld_mnn_sp_completes nn s
  -- stack
  | h_push p =>
    refine ⟨_, exec_push p s, pushPair_effect ?_ (storeTargets_push p s) p⟩
    exact .inr (.inr (.inr (.inr (.inr (.inl ⟨p, rfl⟩)))))
  | h_pop p =>
    refine ⟨_, exec_pop p s, popPair_effect ?_ p (by rintro rfl; rfl) s⟩
    exact .inr (.inr (.inr (.inr (.inr (.inr (.inl ⟨p, rfl⟩))))))
  -- 8-bit arithmetic and logic
  | h_aluReg op x =>
    exact ⟨_, exec_aluReg op x s, .ofRegisterMove (aluApply_move op _ 4 s) inRange4
      (.inr (flagRow_alu op _ _ _ (.inl ⟨x, rfl⟩) rfl rfl rfl))⟩
  | h_aluMhl op =>
    exact ⟨_, exec_aluMhl op s, .ofRegisterMove ((RegisterMove.countRead s).trans (aluApply_move op _ 8 _)) inRange8
      (.inr (flagRow_alu op _ _ _ (.inr (.inl rfl)) rfl rfl rfl))⟩
  | h_aluImm op n =>
    exact ⟨_, exec_aluImm op n s, .ofRegisterMove (aluApply_move op n 8 s) inRange8
      (.inr (flagRow_alu op _ _ _ (.inr (.inr ⟨n, rfl⟩)) rfl rfl rfl))⟩
  | h_incReg x =>
    exact ⟨_, exec_incReg x s, .ofRegisterMove (stepReg_move x _ s) inRange4
      (.inr (.inr (.inl ⟨.inl ⟨x, rfl⟩, rfl, rfl⟩)))⟩
  | h_inc_mhl =>
    exact ⟨_, exec_incMhl s, stepMhl_effect List.mem_cons_self (.inr (.inl ⟨.inr rfl, rfl, rfl⟩))⟩
  | h_decReg x =>
    exact ⟨_, exec_decReg x s, .ofRegisterMove (stepReg_move x _ s) inRange4
      (.inr (.inr (.inr (.inl ⟨.inl ⟨x, rfl⟩, rfl, rfl⟩))))⟩
  | h_dec_mhl =>
    exact ⟨_, exec_decMhl s, stepMhl_effect List.mem_cons_self (.inr (.inr (.inl ⟨.inr rfl, rfl, rfl⟩)))⟩
  | h_daa =>
    exact ⟨_, rfl, .ofRegisterMove ⟨rfl⟩ inRange4 (.inr (.inr (.inr (.inr (.inl ⟨rfl, daaOut_flags _ _ _ _⟩)))))⟩
  | h_cpl =>
    exact ⟨_, rfl, .ofRegisterMove ⟨rfl⟩ inRange4 (.inr (.inr (.inr (.inr (.inr (.inl ⟨rfl, rfl, rfl, rfl, rfl⟩))))))⟩
  | h_scf =>
    exact ⟨_, rfl, .ofRegisterMove ⟨rfl⟩ inRange4
      (.inr (.inr (.inr (.inr (.inr (.inr (.inl ⟨rfl, rfl, rfl, rfl, rfl⟩)))))))⟩
  | h_ccf =>
    exact ⟨_, rfl, .ofRegisterMove ⟨rfl⟩ inRange4
      (.inr (.inr (.inr (.inr (.inr (.inr (.inr (.inl ⟨rfl, rfl, rfl, rfl, rfl⟩))))))))⟩
  -- 16-bit arithmetic
  | h_addHlPair p =>
    refine ⟨_, exec_addHlPair p s, .ofRegisterMove ⟨rfl⟩ inRange8 (.inr ?_)⟩
    unfold FlagRow
    iterate 7 right
    exact .inl ⟨⟨p, rfl⟩, rfl, rfl⟩
  | h_incPair p =>
    refine ⟨_, exec_incPair p s, setPair_effect p _ inRange8 ?_ s⟩
    rintro rfl
    exact .inr (.inr (.inr (.inl rfl)))
  | h_decPair p =>
    refine ⟨_, exec_decPair p s, setPair_effect p _ inRange8 ?_ s⟩
    rintro rfl
    exact .inr (.inr (.inr (.inr (.inl rfl))))
  | h_add_sp_e e =>
    refine ⟨_, rfl, setSp_effect (.inr (.inr (.inl ⟨e, rfl⟩))) inRange16 rfl (.inr ?_)⟩
    unfold FlagRow
    iterate 8 right
    exact .inl ⟨.inl ⟨e, rfl⟩, rfl, rfl⟩
  -- rotates, shifts and bits
  | h_accRot op =>
    refine ⟨_, exec_accRot op s, .ofRegisterMove ⟨rfl⟩ inRange4 (.inr ?_)⟩
    unfold FlagRow
    iterate 9 right
    exact .inl ⟨⟨op, rfl⟩, accRotOut_flags op s.a s.fC⟩
  | h_rot op x => exact rot_completes op x s
  | h_bit b x => exact bit_completes b x s
  | h_res b x => exact res_completes b x s
  | h_set b x => exact set_completes b x s
  | h_prefix_cb => exact prefix_completes s
  -- control transfers
  | h_jp_nn nn => exact ⟨_, rfl, jumpTo_effect (.inl ⟨nn, rfl⟩) nn inRange16 s⟩
  | h_jpCond cc nn =>
    exact ⟨_, exec_jpCond cc nn s, jumpIf_effect (.inr (.inl ⟨cc, nn, rfl⟩)) cc nn inRange16 inRange12 s⟩
  | h_jp_hl => exact ⟨_, rfl, jumpTo_effect (.inr (.inr (.inl rfl))) s.hl inRange4 s⟩
  | h_jr_e e => exact ⟨_, rfl, jumpTo_effect (.inr (.inr (.inr (.inl ⟨e, rfl⟩)))) _ inRange12 s⟩
  | h_jrCond cc e =>
    exact ⟨_, exec_jrCond cc e s,
      jumpIf_effect (.inr (.inr (.inr (.inr (.inl ⟨cc, e, rfl⟩))))) cc _ inRange12 inRange8 s⟩
  | h_call_nn nn =>
    exact ⟨_, rfl, callTo_effect (.inr (.inr (.inr (.inr (.inr (.inl ⟨nn, rfl⟩))))))
      (.inr (.inr (.inr (.inr (.inr (.inr (.inr (.inl ⟨nn, rfl⟩)))))))) rfl nn inRange24⟩
  | h_callCond cc nn => exact callCond_completes cc nn s
  | h_rst y => exact rst_completes y s
  | h_ret =>
    refine ⟨_, rfl, returnFrom_effect ?_ ?_ inRange16 s⟩
    · exact .inr (.inr (.inr (.inr (.inr (.inr (.inr (.inl rfl)))))))
    · exact .inr (.inr (.inr (.inr (.inr (.inr (.inr (.inr (.inr (.inl rfl)))))))))
  | h_retCond cc => exact retCond_completes cc s
  | h_reti => exact reti_completes s
  -- system
  | h_nop => exact ⟨_, rfl, took_effect _ s inRange4⟩
  | h_halt => exact halt_completes s (hhalt rfl)
  | h_stop n =>
    exact ⟨_, rfl, ⟨fun _ => inRange4, fun h => absurd rfl (h n), .inl ⟨rfl, rfl, rfl, rfl⟩, .inl rfl, .inl rfl, .inl ⟨rfl, rfl⟩,
      .inr (.inr (.inl ⟨n, rfl, rfl⟩)), .inl rfl⟩⟩
  | h_di =>
    exact ⟨_, rfl, ⟨fun _ => inRange4, fun _ => .done ⟨rfl, .inl⟩, .inl ⟨rfl, rfl, rfl, rfl⟩, .inl rfl, .inl rfl,
      .inr (.inl ⟨rfl, rfl, rfl⟩), .inl rfl, .inl rfl⟩⟩
  | h_ei =>
    exact ⟨_, rfl, ⟨fun _ => inRange4, fun _ => .done ⟨rfl, .inl⟩, .inl ⟨rfl, rfl, rfl, rfl⟩, .inl rfl, .inl rfl,
      .inr (.inr (.inl ⟨rfl, rfl, rfl⟩)), .inl rfl, .inl rfl⟩⟩
  | h_unmapped op =>
    exact ⟨_, rfl, ⟨fun h => absurd rfl (h op), fun _ => .done ⟨rfl, .inl⟩, .inl ⟨rfl, rfl, rfl, rfl⟩, .inl rfl, .inl rfl,
      .inl ⟨rfl, rfl⟩, .inr (.inr (.inr ⟨op, rfl, rfl⟩)), .inl rfl⟩⟩

/-- HALT is the one instruction that can be refused (46_system.md R241). -/
theorem exec_halt_of_refuse {s : State} (hime : s.ime = false) (hp : pending s ≠ 0) (hpol : s.cfg.haltPolicy = .refuse) :
    exec .halt s = .refused .haltIme0Pending := by
  have hcase : ¬(s.ime = true ∨ pending s = 0) := by simpa [hime] using hp
  have hexec : exec .halt s = _ := if_neg hcase
  rw [hpol] at hexec
  exact hexec

/-- The refused case, and what every other instruction and state answers. -/
theorem exec_cases (i : Instr) (s : State) :
    (i = .halt ∧ s.ime = false ∧ pending s ≠ 0 ∧ s.cfg.haltPolicy = .refuse ∧ exec i s = .refused .haltIme0Pending) ∨
    (¬(i = .halt ∧ s.ime = false ∧ pending s ≠ 0 ∧ s.cfg.haltPolicy = .refuse) ∧ Completes i s) := by
  by_cases h : i = .halt ∧ s.ime = false ∧ pending s ≠ 0 ∧ s.cfg.haltPolicy = .refuse
  · obtain ⟨rfl, hime, hp, hpol⟩ := h
    exact .inl ⟨rfl, hime, hp, hpol, exec_halt_of_refuse hime hp hpol⟩
  · refine .inr ⟨h, instr_completes i s fun hi => ?_⟩
    by_contra hcon
    simp only [not_or, not_not] at hcon
    obtain ⟨hime, hp, hpol⟩ := hcon
    exact h ⟨hi, by simpa using hime, hp, hpol⟩

/-- Whatever an instruction answers as next state is its effect. -/
theorem effect_of_exec {i : Instr} {s t : State} (h : exec i s = .next t) : Effect i s t := by
  rcases exec_cases i s with ⟨-, -, -, -, hr⟩ | ⟨-, u, hu, heff⟩
  · rw [hr] at h
    cases h
  · rw [hu] at h
    obtain rfl := Host.Outcome.next.inj h
    exact heff

/-- What follows the CPU's part of a step is a move of the peripherals and of the host (60_exceptions.md R310). -/
theorem afterCpu_move (s : State) : PeripheralMove s (afterCpu s) := by
  unfold afterCpu
  split
  · exact .refl s
  · exact (advancePeripherals_move s.cycles s).trans (serialMove_move _)

/-- STOP clears the divider, which one address shows (46_system.md R242; 60_exceptions.md R275). -/
theorem byteAt_stopCpu (s : State) (b : Word) (hb : b ≠ 0xFF04) : byteAt (stopCpu s) b = byteAt s b := by
  have hdiv : ioReg b.toNat ≠ .div := fun h => hb (BitVec.eq_of_toNat_eq (ioReg_address _ 0xFF04 (h ▸ rfl)))
  apply byteAt_congr
  case io =>
    intro _ _
    generalize ioReg b.toNat = r at hdiv
    cases r
    case div => exact absurd rfl hdiv
    all_goals rfl
  case rom => exact fun _ => ⟨rfl, rfl, fun _ => rfl⟩
  all_goals intros; rfl

/-- Settles O10: the record's count of cycles. -/
theorem everyInstructionCompletes : Obligations.EveryInstructionCompletes := by
  intro i s hhalt
  obtain ⟨t, ht, heff⟩ := instr_completes i s hhalt
  exact ⟨t, ht, heff.cycles⟩

/-- Settles O14: the record's clause for the flags; a dispatch pushes, and the peripherals have no flag to change. -/
theorem flagsChangeOnlyByNamedInstructions : Obligations.FlagsChangeOnlyByNamedInstructions := by
  refine ⟨fun i s t h => (effect_of_exec h).flags, fun k s => push16_flags _ _, fun s => ?_⟩
  rw [(afterCpu_move s).frame]
  exact ⟨rfl, rfl, rfl, rfl⟩

/-- Settles O15: the record's clauses for PC and SP. -/
theorem pcAndSpChangeOnlyByNamedInstructions : Obligations.PcAndSpChangeOnlyByNamedInstructions :=
  fun _ _ _ h => ⟨(effect_of_exec h).pc, (effect_of_exec h).sp⟩

/-- Settles O16: every store of the instruction goes to a target; STOP stores nothing, and 0xFF04 alone shows the divider. -/
theorem storesReachOnlyTheirTargets : Obligations.StoresReachOnlyTheirTargets := by
  intro i s t hi h b hreach hdiv
  by_cases hstop : ∃ n, i = .stop n
  · obtain ⟨n, rfl⟩ := hstop
    obtain rfl := Host.Outcome.next.inj h
    exact byteAt_stopCpu s b (hdiv n rfl)
  · exact ((effect_of_exec h).stores (not_exists.mp hstop)).byteAt_eq hi hreach

/-- Settles O18: the record's clauses for the mode and for `halt_bug`. -/
theorem modeChangesOnlyByNamedInstructions : Obligations.ModeChangesOnlyByNamedInstructions :=
  fun _ _ _ h => ⟨(effect_of_exec h).mode, (effect_of_exec h).haltBug⟩

end Sys2Proof.Machine
end

