-- ==== Sys2Proof/Proofs/Step.lean ====
section
/-! SUPPORT. One step (60_exceptions.md R260, R310): which of its five forms a state takes, the fetch by the bytes it reads, and what every
step keeps. -/

namespace Sys2Proof.Machine

/-! ### The forms of a step -/

/-- A state with the three registers that the interrupt check reads and writes, and that the fetch does not look at. -/
def State.withCheck (mode : CpuMode) (ime eiPending : Bool) (s : State) : State :=
  { s with mode := mode, ime := ime, eiPending := eiPending }

/-- The state an instruction is fetched in: running, with a pending `EI` taken effect (60_exceptions.md R260; 46_system.md R244). -/
def State.awake (s : State) : State := s.withCheck .running (s.ime || s.eiPending) false

/-- The check goes on to an instruction when it neither waits nor dispatches (R260). -/
theorem cpuPlan_of_execute {s : State} (hwait : ¬(s.mode = .halted ∧ pending s = 0)) (hdisp : ¬(s.ime = true ∧ pending s ≠ 0)) :
    cpuPlan s = .execute s.awake := by
  rw [cpuPlan, if_neg hwait, if_neg hdisp, State.awake, State.withCheck]
  by_cases hei : s.eiPending = true
  · rw [if_pos hei, hei, Bool.or_true]
  · have hei' : s.eiPending = false := by simpa using hei
    rw [if_neg hei, hei', Bool.or_false]

theorem step_of_faulted {s : State} (h : s.mode = .faulted) : step s = .fault .faulted := by simp only [step, h]

theorem step_of_stopped {s : State} (h : s.mode = .stopped) : step s = .next (stoppedStep s) := by simp only [step, h]

theorem step_of_waiting {s : State} (hmode : s.mode = .halted) (hp : pending s = 0) : step s = .next (haltedStep s) := by
  have hplan : cpuPlan s = .idle := if_pos ⟨hmode, hp⟩
  simp only [step, hmode, hplan]

theorem step_of_execute {s : State} (hmode : s.mode = .running ∨ (s.mode = .halted ∧ pending s ≠ 0))
    (hdisp : ¬(s.ime = true ∧ pending s ≠ 0)) : step s = runInstr s.awake := by
  have hwait : ¬(s.mode = .halted ∧ pending s = 0) := by
    rintro ⟨hm, hp⟩
    rcases hmode with h | ⟨-, hne⟩
    · rw [h] at hm; cases hm
    · exact hne hp
  have hplan := cpuPlan_of_execute hwait hdisp
  rcases hmode with h | ⟨h, -⟩ <;> simp only [step, h, hplan]

/-- The five forms of a step (R250, R260 to R262, R310, R311). -/
inductive StepForm (s : State) : Prop where
  | faulted (mode : s.mode = .faulted) (step_eq : step s = .fault .faulted)
  | stopped (mode : s.mode = .stopped) (step_eq : step s = .next (stoppedStep s))
  | waiting (mode : s.mode = .halted) (hp : pending s = 0) (step_eq : step s = .next (haltedStep s))
  | dispatch (mode : s.mode = .running ∨ s.mode = .halted) (hime : s.ime = true) (hp : pending s ≠ 0)
      (step_eq : step s = .next (afterCpu (dispatchInterrupt (lowestBit (pending s)) { s with mode := .running })))
  | execute (mode : s.mode = .running ∨ (s.mode = .halted ∧ pending s ≠ 0)) (hdisp : ¬(s.ime = true ∧ pending s ≠ 0))
      (step_eq : step s = runInstr s.awake)

theorem stepForm (s : State) : StepForm s := by
  by_cases hdisp : s.ime = true ∧ pending s ≠ 0
  · obtain ⟨hime, hp⟩ := hdisp
    have hplan := cpuPlan_of_ime_of_pending hime hp
    cases hm : s.mode with
    | faulted => exact .faulted hm (step_of_faulted hm)
    | stopped => exact .stopped hm (step_of_stopped hm)
    | running => exact .dispatch (.inl hm) hime hp (step_of_cpuPlan_dispatch (.inl hm) hplan)
    | halted => exact .dispatch (.inr hm) hime hp (step_of_cpuPlan_dispatch (.inr hm) hplan)
  · cases hm : s.mode with
    | faulted => exact .faulted hm (step_of_faulted hm)
    | stopped => exact .stopped hm (step_of_stopped hm)
    | running => exact .execute (.inl hm) hdisp (step_of_execute (.inl hm) hdisp)
    | halted =>
      by_cases hp : pending s = 0
      · exact .waiting hm hp (step_of_waiting hm hp)
      · exact .execute (.inr ⟨hm, hp⟩) hdisp (step_of_execute (.inr ⟨hm, hp⟩) hdisp)

theorem runInstr_eq_next {s t : State} (h : runInstr s = .next t) :
    ∃ u, exec (fetch s).1 (fetch s).2 = .next u ∧ t = afterCpu u := by
  unfold runInstr at h
  cases hexec : exec (fetch s).1 (fetch s).2 with
  | next u => rw [hexec] at h; exact ⟨u, rfl, (Host.Outcome.next.inj h).symm⟩
  | fault e => rw [hexec] at h; cases h
  | refused e => rw [hexec] at h; cases h

/-! ### The fetch -/

/-- Every format has one, two or three bytes (30_encoding.md R92). -/
theorem opcodeLength_cases (op : Byte) : opcodeLength op = 1 ∨ opcodeLength op = 2 ∨ opcodeLength op = 3 := by
  unfold opcodeLength
  dsimp only
  (repeat' split) <;> simp

theorem afterFetch_withCheck (m : CpuMode) (ime ei : Bool) (s : State) :
    afterFetch (s.withCheck m ime ei) = (afterFetch s).withCheck m ime ei := rfl

theorem afterOpcode_withCheck (op : Byte) (m : CpuMode) (ime ei : Bool) (s : State) :
    afterOpcode op (s.withCheck m ime ei) = (afterOpcode op s).withCheck m ime ei := by
  have hbug : (s.withCheck m ime ei).haltBug = s.haltBug := rfl
  unfold afterOpcode
  rw [hbug]
  split <;> rfl

theorem readByte_withCheck (a : Word) (m : CpuMode) (ime ei : Bool) (s : State) :
    readByte (s.withCheck m ime ei) a = readByte s a := rfl

@[simp] theorem withCheck_pc (m : CpuMode) (ime ei : Bool) (s : State) : (s.withCheck m ime ei).pc = s.pc := rfl

/-- Fetching looks at neither mode nor interrupt state, and leaves them (R260). -/
theorem fetch_withCheck (m : CpuMode) (ime ei : Bool) (s : State) :
    fetch (s.withCheck m ime ei) = ((fetch s).1, (fetch s).2.withCheck m ime ei) := by
  unfold fetch
  simp only [withCheck_pc, readByte_withCheck, afterOpcode_withCheck, afterFetch_withCheck]
  rcases opcodeLength_cases (readByte s s.pc) with hlen | hlen | hlen <;> simp only [hlen]

/-- PC, `halt_bug` and the read counter alone move, and `halt_bug` is not set. -/
structure FetchMove (s t : State) : Prop where
  frame : t = { s with pc := t.pc, haltBug := t.haltBug, free := t.free }
  haltBug : t.haltBug = true → s.haltBug = true

theorem FetchMove.trans {s t u : State} (h : FetchMove s t) (h' : FetchMove t u) : FetchMove s u :=
  ⟨by rw [h'.frame, h.frame], fun hu => h.haltBug (h'.haltBug hu)⟩

theorem FetchMove.afterFetch (s : State) : FetchMove s (afterFetch s) := ⟨rfl, id⟩

theorem FetchMove.afterOpcode (op : Byte) (s : State) : FetchMove s (afterOpcode op s) := by
  unfold Machine.afterOpcode
  split
  · exact ⟨rfl, fun h => by cases h⟩
  · exact .afterFetch s

theorem fetch_move (s : State) : FetchMove s (fetch s).2 := by
  unfold fetch
  dsimp only
  split
  · exact .afterOpcode _ s
  · exact (FetchMove.afterOpcode _ s).trans (.afterFetch _)
  · exact (FetchMove.afterOpcode _ s).trans ((FetchMove.afterFetch _).trans (.afterFetch _))

/-- The bytes `decode` reads one instruction from are the opcode and the operand bytes of its length (30_encoding.md R92). -/
theorem decode_eq_ok_nil {op : Byte} {more : List Byte} {i : Instr} (h : decode (op :: more) = .ok i []) :
    (opcodeLength op = 1 ∧ more = [] ∧ i = decodeOpcode op 0 0) ∨
    (∃ b1, opcodeLength op = 2 ∧ more = [b1] ∧ i = decodeOpcode op b1 0) ∨
    (∃ b1 b2, opcodeLength op = 3 ∧ more = [b1, b2] ∧ i = decodeOpcode op b1 b2) := by
  unfold decode at h
  split at h
  case h_1 => cases h
  case h_2 op' rest' heq =>
    obtain ⟨rfl, rfl⟩ := List.cons.inj heq
    split at h
    case h_1 hlen =>
      obtain ⟨rfl, rfl⟩ := Decoded.ok.inj h
      exact .inl ⟨hlen, rfl, rfl⟩
    case h_2 b1 _ hlen =>
      obtain ⟨rfl, rfl⟩ := Decoded.ok.inj h
      exact .inr (.inl ⟨b1, hlen, rfl, rfl⟩)
    case h_3 b1 b2 _ hlen =>
      obtain ⟨rfl, rfl⟩ := Decoded.ok.inj h
      exact .inr (.inr ⟨b1, b2, hlen, rfl, rfl⟩)
    case h_4 => cases h

theorem afterFetch_afterFetch (s : State) :
    afterFetch (afterFetch s) = { s with pc := s.pc + 2, free := { s.free with reads := s.free.reads + 2 } } := by
  have hpc : s.pc + 1 + 1 = s.pc + 2 := by bv_omega
  rw [← hpc]
  rfl

/-- The opcode read, the operand bytes follow it in memory where the opcode's fetch has left PC. -/
theorem fetch_of_readsBytes {s r : State} {op : Byte} {more : List Byte} {i : Instr} (hop : readByte s s.pc = op)
    (hr : afterOpcode op s = r) (hmore : readsBytes r r.pc more) (hdec : decode (op :: more) = .ok i []) :
    fetch s = (i, { r with pc := r.pc + BitVec.ofNat 16 more.length,
                           free := { r.free with reads := r.free.reads + more.length } }) := by
  unfold fetch
  simp only [hop, hr]
  rcases decode_eq_ok_nil hdec with ⟨hlen, rfl, rfl⟩ | ⟨b1, hlen, rfl, rfl⟩ | ⟨b1, b2, hlen, rfl, rfl⟩
  · simp [hlen]
  · obtain ⟨h1, -⟩ := hmore
    simp only [hlen, h1]
    rfl
  · obtain ⟨h1, h2, -⟩ := hmore
    have h2' : readByte (afterFetch r) (afterFetch r).pc = b2 := h2
    simp only [hlen, h1, h2', afterFetch_afterFetch]
    rfl

/-- Exactly the eleven bytes decode to `unmapped`, alone and as themselves (30_encoding.md R102). -/
theorem decode_unmapped_iff {op : Byte} {more rest : List Byte} {i : Instr} (h : decode (op :: more) = .ok i rest) :
    ((∃ o, i = .unmapped o) ↔ unmappedOpcodes.contains op = true) ∧ ∀ o, i = .unmapped o → o = op ∧ rest = more := by
  obtain ⟨hwf, henc⟩ := encodeOfDecode _ _ _ h
  have hself (o : Byte) (hi : i = .unmapped o) : o = op ∧ rest = more := by
    subst hi
    exact List.cons.inj henc
  refine ⟨⟨?_, fun hop => ?_⟩, hself⟩
  · rintro ⟨o, hi⟩
    obtain ⟨rfl, -⟩ := hself o hi
    rw [hi] at hwf
    exact hwf
  · have hdec := Laws.RoundTrip.unmapped op hop more
    exact ⟨op, (Decoded.ok.inj (h.symm.trans hdec)).1⟩

end Sys2Proof.Machine
end

