-- ==== Sys2Proof/Proofs/StepRules.lean ====
section
/-! SUPPORT. The rules about whole steps: what a step runs (60_exceptions.md R260, R310; 46_system.md R241 to R246), where it has no next
state (R250), and what every step keeps (10_state.md R19 to R21; 20_memory.md R43, R59). -/

namespace Sys2Proof.Machine

/-! ### What a step runs -/

theorem pending_eq_zero_iff (s : State) :
    pending s = 0 ↔ ∀ k, k < 5 → ¬(s.ie.getLsbD k = true ∧ s.iflag.getLsbD k = true) := by
  constructor
  · intro h k _ hk
    have : (pending s).getLsbD k = true := by rw [pending_getLsbD, hk.1, hk.2, Bool.and_self]
    exact ne_zero_of_getLsbD this h
  · intro h
    apply BitVec.eq_of_getLsbD_eq
    intro k hk
    refine Eq.trans ?_ BitVec.getLsbD_zero.symm
    rw [pending_getLsbD, ← Bool.not_eq_true, Bool.and_eq_true]
    exact h k hk

/-- PC and the read counter count the opcode and the bytes after it together. -/
theorem afterFetch_more (s : State) (n : Nat) :
    { afterFetch s with pc := (afterFetch s).pc + BitVec.ofNat 16 n,
                        free := { (afterFetch s).free with reads := (afterFetch s).free.reads + n } } =
      { s with pc := s.pc + BitVec.ofNat 16 (n + 1), free := { s.free with reads := s.free.reads + (n + 1) } } := by
  have hpc : s.pc + 1 + BitVec.ofNat 16 n = s.pc + BitVec.ofNat 16 (n + 1) := by
    rw [BitVec.add_assoc, Nat.add_comm n 1, BitVec.ofNat_add]
    rfl
  have hreads : s.free.reads + 1 + n = s.free.reads + (n + 1) := by omega
  rw [← hpc, ← hreads]
  rfl

/-- What the reads give rests on neither PC nor `halt_bug`. -/
theorem readsBytes_congr (pc : Word) (bug : Bool) (s : State) (a : Word) (bs : List Byte) :
    readsBytes { s with haltBug := bug, pc := pc } a bs ↔ readsBytes s a bs := by
  induction bs generalizing s a with
  | nil => exact Iff.rfl
  | cons b bs ih => exact and_congr Iff.rfl (ih s.countRead (a + 1))

/-- Settles O4: the check goes on to the instruction, the fetch reads its bytes, and the step is its meaning and the rest. -/
theorem stepRunsDecodedInstruction : Obligations.StepRunsDecodedInstruction := by
  intro s i bs hreads hdec hmode hdisp hbug
  refine ⟨?_, fun t => rfl⟩
  cases bs with
  | nil => cases hdec
  | cons op more =>
    obtain ⟨hop, hmore⟩ := hreads
    have hafter : afterOpcode op s = afterFetch s := if_neg (by simp [hbug])
    have hmore' : readsBytes (afterFetch s) (afterFetch s).pc more :=
      (readsBytes_congr (s.pc + 1) s.haltBug s.countRead (s.pc + 1) more).mpr hmore
    rw [step_of_execute hmode hdisp, runInstr, State.awake, fetch_withCheck, fetch_of_readsBytes hop hafter hmore' hdec,
      afterFetch_more]
    rfl

/-- Settles O5: the opcode's fetch clears `halt_bug` and leaves PC at the byte, unless the byte is unmapped. -/
theorem haltBugRepeatsOneByte : Obligations.HaltBugRepeatsOneByte := by
  intro s i op more hop hmore hdec hmode hdisp hbug
  obtain ⟨hunm, hself⟩ := decode_unmapped_iff hdec
  have hafter : afterOpcode op s =
      { s.countRead with haltBug := false, pc := if unmappedOpcodes.contains op then s.pc + 1 else s.pc } := if_pos hbug
  rw [step_of_execute hmode hdisp, runInstr, State.awake, fetch_withCheck]
  by_cases hi : i = .unmapped op
  · have hcontains := hunm.mp ⟨op, hi⟩
    obtain ⟨-, rfl⟩ := hself op hi
    rw [if_pos hcontains] at hafter
    rw [fetch_of_readsBytes (more := []) hop hafter trivial hdec, if_pos hi]
    simp only [List.length_nil, BitVec.ofNat_eq_ofNat, BitVec.add_zero]
    rfl
  · have hcontains : ¬unmappedOpcodes.contains op = true := fun h => by
      obtain ⟨o, ho⟩ := hunm.mpr h
      obtain ⟨rfl, -⟩ := hself o ho
      exact hi ho
    rw [if_neg hcontains] at hafter
    have hreads : s.free.reads + 1 + more.length = s.free.reads + (more.length + 1) := by omega
    rw [fetch_of_readsBytes hop hafter ((readsBytes_congr _ _ _ _ _).mpr hmore) hdec, if_neg hi, ← hreads]
    rfl

/-- Settles O7: with nothing pending the halted state waits. -/
theorem haltedStepOnlyWaits : Obligations.HaltedStepOnlyWaits := fun s hmode hnone =>
  step_of_waiting hmode ((pending_eq_zero_iff s).mpr hnone)

/-- Settles O44: each encoding by the length of its format, each effect by definition. -/
theorem systemInstructions : Obligations.SystemInstructions :=
  ⟨decode_of_length_one rfl, fun _ => rfl, decode_of_length_two rfl, fun _ _ => rfl, decode_of_length_one rfl, fun _ => rfl,
    decode_of_length_one rfl, fun _ => rfl⟩

/-- HALT in case 3 follows the parameter (46_system.md R241). -/
theorem exec_halt_of_pending {s : State} (hime : s.ime = false) (hp : pending s ≠ 0) :
    exec .halt s = match s.cfg.haltPolicy with
      | .refuse => .refused .haltIme0Pending
      | .fallthrough => .next (s.took 4)
      | .bug => .next ({ s with haltBug := true }.took 4) := by
  have hcase : ¬(s.ime = true ∨ pending s = 0) := by simpa [hime] using hp
  exact (if_neg hcase).trans rfl

/-- Settles O45: the three cases are the branches of HALT, and the third has one for each value of the parameter. -/
theorem haltCases : Obligations.HaltCases := by
  refine ⟨decode_of_length_one rfl, fun s hime => if_pos (.inl hime),
    fun s _ hnone => if_pos (.inr ((pending_eq_zero_iff s).mpr hnone)), fun s k hime _ hie hif => ?_⟩
  have hp : pending s ≠ 0 := ne_zero_of_getLsbD (k := k) (by rw [pending_getLsbD, hie, hif, Bool.and_self])
  rw [exec_halt_of_pending hime hp]
  refine ⟨fun h => ?_, fun h => ?_, fun h => ?_⟩ <;> rw [h] <;> rfl

/-- Settles O46: the decoder's unmapped bytes, the exception by definition, and the step as O4 and O5 give it; in `Faulted` no
peripheral advances. -/
theorem unmappedOpcodesFault : Obligations.UnmappedOpcodesFault := by
  refine ⟨fun op b1 b2 rest => ?_, fun op s => rfl, fun s op hop hdec hmode hdisp => ?_⟩
  · obtain ⟨i, r, hdec⟩ : ∃ i r, decode (op :: b1 :: b2 :: rest) = .ok i r := by
      rcases opcodeLength_cases op with hlen | hlen | hlen
      · exact ⟨_, _, decode_of_length_one hlen _⟩
      · exact ⟨_, _, decode_of_length_two hlen _ _⟩
      · exact ⟨_, _, decode_of_length_three hlen _ _ _⟩
    obtain ⟨hunm, hself⟩ := decode_unmapped_iff hdec
    exact ⟨i, r, hdec, hunm.trans List.contains_iff_mem, hself⟩
  · have haddr : s.pc + 1 - 1 = s.pc := by bv_omega
    have hrun : step s = finishStep (exec (.unmapped op)
        { s with mode := .running, ime := s.ime || s.eiPending, eiPending := false, haltBug := false,
                 pc := s.pc + 1, free := { s.free with reads := s.free.reads + 1 } }) := by
      cases hbug : s.haltBug with
      | false =>
        rw [(stepRunsDecodedInstruction s _ [op] ⟨hop, trivial⟩ hdec hmode hdisp hbug).1, ← hbug]
        rfl
      | true =>
        rw [haltBugRepeatsOneByte s _ op [] hop trivial hdec hmode hdisp hbug, if_pos rfl]
        rfl
    rw [hrun]
    simp only [exec, exec_unmapped, raiseUnmapped, haddr, finishStep, afterCpu, if_true]

/-! ### Where a step has no next state -/

theorem exec_ne_fault (i : Instr) (s : State) (e : Fault) : exec i s ≠ .fault e := by
  rcases exec_cases i s with ⟨-, -, -, -, h⟩ | ⟨-, t, h, -⟩ <;> rw [h] <;> exact fun h => by cases h

theorem exec_eq_refused_iff (i : Instr) (s : State) (r : Refusal) :
    exec i s = .refused r ↔
      r = .haltIme0Pending ∧ i = .halt ∧ s.ime = false ∧ pending s ≠ 0 ∧ s.cfg.haltPolicy = .refuse := by
  rcases exec_cases i s with ⟨hi, hime, hp, hpol, h⟩ | ⟨hnot, t, h, -⟩
  · rw [h]
    exact ⟨fun hr => ⟨(Host.Outcome.refused.inj hr).symm, hi, hime, hp, hpol⟩, fun hr => by rw [hr.1]⟩
  · rw [h]
    exact ⟨fun hr => (by cases hr), fun hr => absurd hr.2 hnot⟩

theorem runInstr_ne_fault (s : State) (e : Fault) : runInstr s ≠ .fault e := by
  intro h
  unfold runInstr at h
  cases hexec : exec (fetch s).1 (fetch s).2 with
  | next u => rw [hexec] at h; cases h
  | fault e' => exact exec_ne_fault _ _ _ hexec
  | refused r => rw [hexec] at h; cases h

theorem runInstr_eq_refused_iff (s : State) (r : Refusal) :
    runInstr s = .refused r ↔ exec (fetch s).1 (fetch s).2 = .refused r := by
  unfold runInstr
  cases exec (fetch s).1 (fetch s).2 with
  | next u => exact ⟨fun h => (by cases h), fun h => (by cases h)⟩
  | fault e => exact ⟨fun h => (by cases h), fun h => (by cases h)⟩
  | refused r' => exact ⟨fun h => congrArg _ (Host.Outcome.refused.inj h), fun h => congrArg _ (Host.Outcome.refused.inj h)⟩

/-- An awake state's step is refused at HALT in case 3 under `refuse`, by what the state before the check holds. -/
theorem runInstr_awake_refused_iff (s : State) (r : Refusal) :
    runInstr s.awake = .refused r ↔
      r = .haltIme0Pending ∧ (fetch s).1 = .halt ∧ s.ime = false ∧ s.eiPending = false ∧ pending s ≠ 0 ∧
        s.cfg.haltPolicy = .refuse := by
  have hpend : pending ((fetch s).2.withCheck .running (s.ime || s.eiPending) false) = pending s := by
    rw [(fetch_move s).frame]
    rfl
  have hcfg : ((fetch s).2.withCheck .running (s.ime || s.eiPending) false).cfg = s.cfg := by
    rw [(fetch_move s).frame]
    rfl
  have hime : ((fetch s).2.withCheck .running (s.ime || s.eiPending) false).ime = false ↔
      s.ime = false ∧ s.eiPending = false := Bool.or_eq_false_iff
  rw [runInstr_eq_refused_iff, State.awake, fetch_withCheck, exec_eq_refused_iff, hpend, hcfg, hime, and_assoc]

/-- Settles O9: form by form; an awake state is refused as HALT is. -/
theorem stepStopsOnlyWhereSaid : Obligations.StepStopsOnlyWhereSaid := by
  intro s
  have hnext {t : State} (h : step s = .next t) (hmode : s.mode ≠ .faulted)
      (hrun : ¬((s.mode = .running ∨ s.mode = .halted) ∧ (fetch s).1 = .halt ∧ s.ime = false ∧ s.eiPending = false ∧
        pending s ≠ 0 ∧ s.cfg.haltPolicy = .refuse)) :
      (step s = .fault .faulted ↔ s.mode = .faulted) ∧
      (∀ r, step s = .refused r → r = .haltIme0Pending) ∧
      (step s = .refused .haltIme0Pending ↔
        (s.mode = .running ∨ s.mode = .halted) ∧ (fetch s).1 = .halt ∧ s.ime = false ∧ s.eiPending = false ∧
          pending s ≠ 0 ∧ s.cfg.haltPolicy = .refuse) := by
    rw [h]
    exact ⟨⟨fun h => (by cases h), fun h => absurd h hmode⟩, fun r h => (by cases h),
      fun h => (by cases h), fun h => absurd h hrun⟩
  cases stepForm s with
  | faulted hm h =>
    rw [h]
    refine ⟨⟨fun _ => hm, fun _ => rfl⟩, fun r h => (by cases h), fun h => (by cases h), ?_⟩
    rintro ⟨hmode, -⟩
    simp [hm] at hmode
  | stopped hm h =>
    refine hnext h (by simp [hm]) ?_
    rintro ⟨hmode, -⟩
    simp [hm] at hmode
  | waiting hm hp h => exact hnext h (by simp [hm]) fun ⟨_, _, _, _, hp', _⟩ => hp' hp
  | dispatch hm hime hp h =>
    refine hnext h (by rcases hm with hm | hm <;> simp [hm]) fun ⟨_, _, hime', _⟩ => ?_
    rw [hime] at hime'
    cases hime'
  | execute hm hdisp h =>
    have hmode : s.mode = .running ∨ s.mode = .halted := hm.imp_right And.left
    have href := runInstr_awake_refused_iff s
    rw [h]
    refine ⟨⟨fun hf => absurd hf (runInstr_ne_fault _ _), fun hf => ?_⟩, fun r hr => ((href r).mp hr).1, fun hr => ?_, fun hr => ?_⟩
    · simp [hf] at hmode
    · exact ⟨hmode, ((href _).mp hr).2⟩
    · exact (href _).mpr ⟨rfl, hr.2⟩

/-! ### What every step keeps -/

/-- An instruction keeps the invariant: it moves the CPU and stores, and STOP clears the divider. -/
theorem exec_inv {i : Instr} {s t : State} (h : exec i s = .next t) (hi : s.Inv) : t.Inv := by
  by_cases hstop : ∃ n, i = .stop n
  · obtain ⟨n, rfl⟩ := hstop
    obtain rfl := Host.Outcome.next.inj h
    exact { hi with }
  · exact ((effect_of_exec h).stores (not_exists.mp hstop)).inv hi

theorem exec_cfg {i : Instr} {s t : State} (h : exec i s = .next t) : t.cfg = s.cfg := by
  by_cases hstop : ∃ n, i = .stop n
  · obtain ⟨n, rfl⟩ := hstop
    obtain rfl := Host.Outcome.next.inj h
    rfl
  · exact ((effect_of_exec h).stores (not_exists.mp hstop)).cfg

theorem exec_bootActive {i : Instr} {s t : State} (h : exec i s = .next t) (hs : s.bootActive = false) :
    t.bootActive = false := by
  by_cases hstop : ∃ n, i = .stop n
  · obtain ⟨n, rfl⟩ := hstop
    obtain rfl := Host.Outcome.next.inj h
    exact hs
  · exact ((effect_of_exec h).stores (not_exists.mp hstop)).bootActive hs

theorem withCheck_inv (m : CpuMode) (ime ei : Bool) (s : State) (h : s.Inv) : (s.withCheck m ime ei).Inv := { h with }

/-- A step that answers a next state: the host's moves, the wait, the dispatch, or an instruction from its fetched state. -/
theorem step_eq_next {s t : State} (h : step s = .next t) :
    t = stoppedStep s ∨ t = afterCpu (s.took 4) ∨
    (s.ime = true ∧ pending s ≠ 0 ∧
      t = afterCpu (dispatchInterrupt (lowestBit (pending s)) { s with mode := .running })) ∨
    ∃ u, exec (fetch s).1 ((fetch s).2.withCheck .running (s.ime || s.eiPending) false) = .next u ∧ t = afterCpu u := by
  cases stepForm s with
  | faulted _ heq => rw [heq] at h; cases h
  | stopped _ heq => rw [heq] at h; exact .inl (Host.Outcome.next.inj h).symm
  | waiting _ _ heq => rw [heq] at h; exact .inr (.inl (Host.Outcome.next.inj h).symm)
  | dispatch _ hime hp heq => rw [heq] at h; exact .inr (.inr (.inl ⟨hime, hp, (Host.Outcome.next.inj h).symm⟩))
  | execute _ _ heq =>
    rw [heq] at h
    obtain ⟨u, hu, rfl⟩ := runInstr_eq_next h
    rw [State.awake, fetch_withCheck] at hu
    exact .inr (.inr (.inr ⟨u, hu, rfl⟩))

/-- Settles O11: every part of a step keeps the invariant. -/
theorem stepKeepsInvariant : Obligations.StepKeepsInvariant := by
  intro s t hi h
  rcases step_eq_next h with rfl | rfl | ⟨-, -, rfl⟩ | ⟨u, hu, rfl⟩
  · exact serialMove_inv _ (wakeMove_inv s hi)
  · exact afterCpu_inv _ (took_inv 4 s hi)
  · exact afterCpu_inv _ (dispatchInterrupt_inv _ _ { hi with })
  · exact afterCpu_inv u (exec_inv hu (withCheck_inv _ _ _ _ (fetch_inv s hi)))

/-- Settles O13: the record's clause for IME; in a step, a dispatch clears it, a pending `EI` sets it before the fetch, and what
follows the CPU's part leaves it. -/
theorem imeChangesOnlyByNamedEvents : Obligations.ImeChangesOnlyByNamedEvents := by
  refine ⟨fun i s t h => (effect_of_exec h).ime, fun s t h hne => ?_⟩
  have hafter (u : State) : (afterCpu u).ime = u.ime := by rw [(afterCpu_move u).frame]
  rcases step_eq_next h with rfl | rfl | ⟨hime, hp, rfl⟩ | ⟨u, hu, rfl⟩
  · rw [stoppedStep, serialMove_fields, wakeMove_fields] at hne
    exact absurd rfl hne
  · rw [hafter] at hne
    exact absurd rfl hne
  · refine .inl ⟨hime, hp, ?_⟩
    rw [hafter, dispatchInterrupt_eq]
    exact (writeByte_ime _ _ _).trans (writeByte_ime _ _ _)
  · rw [hafter] at hne
    cases hei : s.eiPending with
    | true => exact .inr (.inl rfl)
    | false =>
      rw [hei, Bool.or_false] at hu
      rcases (effect_of_exec hu).ime with ⟨hkeep, -⟩ | ⟨hdi, -⟩ | ⟨-, hkeep, -⟩ | ⟨hreti, -⟩
      · exact absurd hkeep hne
      · exact .inr (.inr (.inl hdi))
      · exact absurd hkeep hne
      · exact .inr (.inr (.inr hreti))

/-- Settles O17: every part of a step keeps the configuration, and none makes the overlay active. -/
theorem configurationAndOverlayPersist : Obligations.ConfigurationAndOverlayPersist := by
  intro s t h
  have hafter (u : State) : (afterCpu u).cfg = u.cfg ∧ (afterCpu u).bootActive = u.bootActive := by
    rw [(afterCpu_move u).frame]
    exact ⟨rfl, rfl⟩
  have hfetch : (fetch s).2.cfg = s.cfg ∧ (fetch s).2.bootActive = s.bootActive := by
    rw [(fetch_move s).frame]
    exact ⟨rfl, rfl⟩
  rcases step_eq_next h with rfl | rfl | ⟨-, -, rfl⟩ | ⟨u, hu, rfl⟩
  · rw [stoppedStep, serialMove_fields, wakeMove_fields]
    exact ⟨rfl, id⟩
  · rw [(hafter _).1, (hafter _).2]
    exact ⟨rfl, id⟩
  · rw [(hafter _).1, (hafter _).2]
    rw [dispatchInterrupt_eq]
    exact ⟨(writeByte_cfg _ _ _).trans (writeByte_cfg _ _ _),
      fun hs => writeByte_bootActive _ _ _ (writeByte_bootActive _ _ _ hs)⟩
  · rw [(hafter _).1, (hafter _).2]
    exact ⟨(exec_cfg hu).trans hfetch.1, fun hs => exec_bootActive hu (hfetch.2.trans hs)⟩

/-- Bit 0 of the selection clear selects the directions, bit 1 the actions (46_system.md R242). -/
theorem selectedPressed_iff (sel : BitVec 2) (now : Buttons) :
    selectedPressed sel now = true ↔
      (sel.getLsbD 0 = false ∧ (now.right = true ∨ now.left = true ∨ now.up = true ∨ now.down = true)) ∨
      (sel.getLsbD 1 = false ∧ (now.a = true ∨ now.b = true ∨ now.select = true ∨ now.start = true)) := by
  simp only [selectedPressed, Bool.or_eq_true, Bool.and_eq_true, Bool.not_eq_true', or_assoc]

/-- Settles O8: the wake move sets the mode, the serial move serial and IF, and each numbers its own draw. -/
theorem stoppedStepWaitsForWake : Obligations.StoppedStepWaitsForWake := by
  intro s hmode
  refine ⟨_, step_of_stopped hmode, ?_, ?_, ?_⟩
  · rw [stoppedStep, serialMove_fields, wakeMove_fields]
  · have hserial : (stoppedStep s).mode = (wakeMove s).mode := by rw [stoppedStep, serialMove_fields]
    have hsel := selectedPressed_iff s.joypad.sel (pollButtons s.free.polls)
    rw [hserial, wakeMove]
    by_cases hwake : selectedPressed s.joypad.sel (pollButtons s.free.polls) = true
    · rw [if_pos hwake]
      exact (if_pos (hsel.mp hwake)).symm
    · rw [if_neg hwake]
      exact hmode.trans (if_neg fun h => hwake (hsel.mpr h)).symm
  · intro hsc7
    have hwake : (wakeMove s).serial = s.serial ∧ (wakeMove s).iflag = s.iflag := by
      rw [wakeMove_fields]
      exact ⟨rfl, rfl⟩
    have hoff : ¬(wakeMove s).serial.sc7 = true := by simp [hwake.1, hsc7]
    rw [stoppedStep, serialMove, if_neg hoff]
    exact hwake

/-- Settles O19: the parts of a step after the CPU's are moves of the peripherals. -/
theorem peripheralsKeepCpuState : Obligations.PeripheralsKeepCpuState := by
  intro s
  obtain ⟨hframe, htimer, hppu, hsel, hsc0, hreads, hiflag⟩ := afterCpu_move s
  exact ⟨hframe, htimer, hppu, hsel, hsc0, hreads, hiflag, fun h => if_pos h, fun h => if_neg h⟩

end Sys2Proof.Machine
end

