-- ==== Sys2Proof/Proofs/MemoryMap.lean ====
section
/-! SUPPORT. The address decoder range by range (20_memory.md R41 to R43), and the I/O registers as they are read and written (R56 to
R61). -/

namespace Sys2Proof.Machine

/-! ### The decoder, range by range: each lemma passes the ranges below its own -/

section
variable {a : Word}

theorem region_romLow (h : a.toNat ≤ 0x3FFF) : region a = .romLow a.toNat := if_pos h

theorem region_romHigh (h1 : 0x4000 ≤ a.toNat) (h2 : a.toNat ≤ 0x7FFF) : region a = .romHigh (a.toNat - 0x4000) := by
  dsimp only [region]
  rw [if_neg (by omega), if_pos h2]

theorem region_vram (h1 : 0x8000 ≤ a.toNat) (h2 : a.toNat ≤ 0x9FFF) : region a = .vram (a.toNat - 0x8000) := by
  dsimp only [region]
  iterate 2 rw [if_neg (by omega)]
  rw [if_pos h2]

theorem region_cartRam (h1 : 0xA000 ≤ a.toNat) (h2 : a.toNat ≤ 0xBFFF) : region a = .cartRam (a.toNat - 0xA000) := by
  dsimp only [region]
  iterate 3 rw [if_neg (by omega)]
  rw [if_pos h2]

theorem region_wram (h1 : 0xC000 ≤ a.toNat) (h2 : a.toNat ≤ 0xDFFF) : region a = .wram (a.toNat - 0xC000) := by
  dsimp only [region]
  iterate 4 rw [if_neg (by omega)]
  rw [if_pos h2]

theorem region_echo (h1 : 0xE000 ≤ a.toNat) (h2 : a.toNat ≤ 0xFDFF) : region a = .wram (a.toNat - 0xE000) := by
  dsimp only [region]
  iterate 5 rw [if_neg (by omega)]
  rw [if_pos h2]

theorem region_oam (h1 : 0xFE00 ≤ a.toNat) (h2 : a.toNat ≤ 0xFE9F) : region a = .oam (a.toNat - 0xFE00) := by
  dsimp only [region]
  iterate 6 rw [if_neg (by omega)]
  rw [if_pos h2]

theorem region_unusable (h1 : 0xFEA0 ≤ a.toNat) (h2 : a.toNat ≤ 0xFEFF) : region a = .unusable := by
  dsimp only [region]
  iterate 7 rw [if_neg (by omega)]
  rw [if_pos h2]

theorem region_io (h1 : 0xFF00 ≤ a.toNat) (h2 : a.toNat ≤ 0xFF7F) : region a = .io (ioReg a.toNat) := by
  dsimp only [region]
  iterate 8 rw [if_neg (by omega)]
  rw [if_pos h2]

theorem region_hram (h1 : 0xFF80 ≤ a.toNat) (h2 : a.toNat ≤ 0xFFFE) : region a = .hram (a.toNat - 0xFF80) := by
  dsimp only [region]
  iterate 9 rw [if_neg (by omega)]
  rw [if_pos h2]

theorem region_ie (h : a.toNat = 0xFFFF) : region a = .ie := by
  dsimp only [region]
  iterate 10 rw [if_neg (by omega)]

end

/-! ### What a read shows and what a write does, by the region -/

section
variable {s : State} {a : Word} {off : Nat}

theorem byteAt_of_region_romLow (h : region a = .romLow off) : byteAt s a = some (romLowRead s off) := by
  simp only [byteAt, h]

theorem byteAt_of_region_romHigh (h : region a = .romHigh off) : byteAt s a = some (romHighRead s off) := by
  simp only [byteAt, h]

theorem byteAt_of_region_vram (h : region a = .vram off) : byteAt s a = some (Memory.get s.vram off) := by
  simp only [byteAt, h]

theorem byteAt_of_region_cartRam (h : region a = .cartRam off) : byteAt s a = some (cartRamRead s off) := by
  simp only [byteAt, h]

theorem byteAt_of_region_wram (h : region a = .wram off) : byteAt s a = some (Memory.get s.wram off) := by
  simp only [byteAt, h]

theorem byteAt_of_region_oam (h : region a = .oam off) : byteAt s a = some (Memory.get s.oam off) := by
  simp only [byteAt, h]

theorem byteAt_of_region_unusable (h : region a = .unusable) : byteAt s a = none := by simp only [byteAt, h]

theorem byteAt_of_region_hram (h : region a = .hram off) : byteAt s a = some (Memory.get s.hram off) := by
  simp only [byteAt, h]

theorem byteAt_of_region_ie (h : region a = .ie) : byteAt s a = some s.ie := by simp only [byteAt, h]

variable (v : Byte)

theorem writeByte_of_region_romLow (h : region a = .romLow off) : writeByte a v s = mapperWrite off v s := by
  simp only [writeByte, h]

theorem writeByte_of_region_romHigh (h : region a = .romHigh off) : writeByte a v s = mapperWrite (0x4000 + off) v s := by
  simp only [writeByte, h]

theorem writeByte_of_region_vram (h : region a = .vram off) :
    writeByte a v s = { s with vram := Memory.set s.vram off v } := by simp only [writeByte, h]

theorem writeByte_of_region_cartRam (h : region a = .cartRam off) : writeByte a v s = cartRamWrite off v s := by
  simp only [writeByte, h]

theorem writeByte_of_region_wram (h : region a = .wram off) :
    writeByte a v s = { s with wram := Memory.set s.wram off v } := by simp only [writeByte, h]

theorem writeByte_of_region_oam (h : region a = .oam off) :
    writeByte a v s = { s with oam := Memory.set s.oam off v } := by simp only [writeByte, h]

theorem writeByte_of_region_unusable (h : region a = .unusable) : writeByte a v s = s := by simp only [writeByte, h]

theorem writeByte_of_region_io {r : IoReg} (h : region a = .io r) : writeByte a v s = ioWrite r a v s := by
  simp only [writeByte, h]

theorem writeByte_of_region_hram (h : region a = .hram off) :
    writeByte a v s = { s with hram := Memory.set s.hram off v } := by simp only [writeByte, h]

theorem writeByte_of_region_ie (h : region a = .ie) : writeByte a v s = { s with ie := v } := by simp only [writeByte, h]

end

/-- Under an active overlay the boot image answers below 0x0100 (20_memory.md R49). -/
theorem romLowRead_of_overlay {s : State} {off : Nat} {boot : Memory} (hoff : off ≤ 0x00FF) (hactive : s.bootActive = true)
    (hboot : s.cfg.boot = some boot) : romLowRead s off = Memory.get boot off := by
  have h : bootOverlay s off = some boot := (if_pos ⟨hactive, hoff⟩).trans hboot
  simp only [romLowRead, h]

theorem romLowRead_of_no_overlay {s : State} {off : Nat} (h : off ≤ 0x00FF → s.bootActive = false) :
    romLowRead s off = Memory.get s.cfg.cart.rom (romLowBank s * 16384 + off) := by
  have hnone : bootOverlay s off = none := if_neg fun ⟨hactive, hoff⟩ => by simp [h hoff] at hactive
  simp only [romLowRead, hnone]

theorem readByte_of_byteAt_some {s : State} {a : Word} {v : Byte} (h : byteAt s a = some v) : readByte s a = v := by
  rw [readByte, h, Option.getD_some]

theorem readByte_of_byteAt_none {s : State} {a : Word} (h : byteAt s a = none) :
    readByte s a = Config.freeRead s.free.reads a := by rw [readByte, h, Option.getD_none]

/-- A write below 0x8000 goes to the mapper, from either ROM window (20_memory.md R70). -/
theorem writeByte_rom {a : Word} (v : Byte) (s : State) (h : a.toNat ≤ 0x7FFF) : writeByte a v s = mapperWrite a.toNat v s := by
  by_cases hlow : a.toNat ≤ 0x3FFF
  · exact writeByte_of_region_romLow v (region_romLow hlow)
  · have hsum : 0x4000 + (a.toNat - 0x4000) = a.toNat := by omega
    rw [writeByte_of_region_romHigh v (region_romHigh (by omega) h), hsum]

/-- Settles O48: one range of the decoder for each clause, and what its region shows or does. -/
theorem memoryMap : Obligations.MemoryMap := by
  refine ⟨fun s a => ?_, fun s a => ⟨fun v => readByte_of_byteAt_some, readByte_of_byteAt_none⟩, fun s a v => ?_⟩
  · exact ⟨fun boot hn hactive hboot =>
        (byteAt_of_region_romLow (region_romLow (by omega))).trans (congrArg some (romLowRead_of_overlay hn hactive hboot)),
      fun hn hoff => (byteAt_of_region_romLow (region_romLow hn)).trans (congrArg some (romLowRead_of_no_overlay hoff)),
      fun h1 h2 => byteAt_of_region_romHigh (region_romHigh h1 h2),
      fun h1 h2 => byteAt_of_region_vram (region_vram h1 h2),
      fun h1 h2 => byteAt_of_region_cartRam (region_cartRam h1 h2),
      fun h1 h2 => byteAt_of_region_wram (region_wram h1 h2),
      fun h1 h2 => byteAt_of_region_wram (region_echo h1 h2),
      fun h1 h2 => byteAt_of_region_oam (region_oam h1 h2),
      fun h1 h2 => byteAt_of_region_unusable (region_unusable h1 h2),
      fun h1 h2 => byteAt_of_region_io (region_io h1 h2),
      fun h1 h2 => byteAt_of_region_hram (region_hram h1 h2),
      fun h => byteAt_of_region_ie (region_ie h)⟩
  · exact ⟨writeByte_rom v s,
      fun h1 h2 => writeByte_of_region_vram v (region_vram h1 h2),
      fun h1 h2 => writeByte_of_region_cartRam v (region_cartRam h1 h2),
      fun h1 h2 => writeByte_of_region_wram v (region_wram h1 h2),
      fun h1 h2 => writeByte_of_region_wram v (region_echo h1 h2),
      fun h1 h2 => writeByte_of_region_oam v (region_oam h1 h2),
      fun h1 h2 => writeByte_of_region_unusable v (region_unusable h1 h2),
      fun h1 h2 => writeByte_of_region_io v (region_io h1 h2),
      fun h1 h2 => writeByte_of_region_hram v (region_hram h1 h2),
      fun h => writeByte_of_region_ie v (region_ie h)⟩

/-! ### The I/O registers -/

/-- The sound registers are a range of their own (20_memory.md R60). -/
theorem ioReg_sound {n : Nat} (h1 : 0xFF10 ≤ n) (h2 : n ≤ 0xFF3F) : ioReg n = .sound := by
  unfold ioReg
  iterate 8 rw [if_neg (by omega)]
  rw [if_pos ⟨h1, h2⟩]

/-- The addresses of the I/O region that no register has (20_memory.md R61). -/
theorem ioReg_unmapped {n : Nat}
    (h : n = 0xFF03 ∨ (0xFF08 ≤ n ∧ n ≤ 0xFF0E) ∨ (0xFF4C ≤ n ∧ n ≤ 0xFF4F) ∨ (0xFF51 ≤ n ∧ n ≤ 0xFF7F)) :
    ioReg n = .unmapped := by
  unfold ioReg
  iterate 22 rw [if_neg (by omega)]

/-- A field is the value shifted down and truncated (00_scope.md R7). -/
theorem field_eq_ofNat (lo n : Nat) (v : Byte) : field lo n v = BitVec.ofNat n (v.toNat / 2 ^ lo) := by
  rw [field, BitVec.extractLsb', Nat.shiftRight_eq_div_pow]

/-- SC shows bits 7 and 0, and ones between them (20_memory.md R56). -/
theorem scRead_eq (p : Serial) : scRead p = BitVec.ofNat 8 (0x7E + p.sc7.toNat * 128 + p.sc0.toNat) := by
  rw [scRead]
  cases p.sc7 <;> cases p.sc0 <;> rfl

/-- DIV shows the upper byte of the counter (60_exceptions.md R275). -/
theorem divRead_eq (t : Timer) : divRead t = BitVec.ofNat 8 (t.sysclk.toNat / 256) := by
  rw [divRead, BitVec.extractLsb', Nat.shiftRight_eq_div_pow]

/-- The unused top bits of a register read as ones (20_memory.md R56). -/
theorem allOnes_append_eq {m n : Nat} (x : BitVec n) :
    BitVec.allOnes m ++ x = BitVec.ofNat (m + n) ((2 ^ m - 1) * 2 ^ n + x.toNat) := by
  apply BitVec.eq_of_toNat_eq
  have hx := x.isLt
  have hlt : (2 ^ m - 1) * 2 ^ n + x.toNat < 2 ^ (m + n) := by
    have hm : 0 < 2 ^ m := Nat.two_pow_pos m
    calc (2 ^ m - 1) * 2 ^ n + x.toNat < (2 ^ m - 1) * 2 ^ n + 2 ^ n := by omega
      _ = (2 ^ m - 1 + 1) * 2 ^ n := by rw [Nat.add_mul, Nat.one_mul]
      _ = 2 ^ (m + n) := by rw [Nat.sub_add_cancel hm, pow_add]
  rw [append_toNat, BitVec.toNat_allOnes, BitVec.toNat_ofNat, Nat.mod_eq_of_lt hlt]

theorem ioRead_tac (s : State) : ioRead s .tac = some (BitVec.ofNat 8 (0xF8 + s.timer.tac.toNat)) :=
  congrArg some (allOnes_append_eq (m := 5) s.timer.tac)

theorem ioRead_iflag (s : State) : ioRead s .iflag = some (BitVec.ofNat 8 (0xE0 + s.iflag.toNat)) :=
  congrArg some (allOnes_append_eq (m := 3) s.iflag)

/-- A nonzero write disables the overlay for good (20_memory.md R59). -/
theorem ioWrite_bootOff (a : Word) (v : Byte) (s : State) :
    ioWrite .bootOff a v s = { s with bootActive := s.bootActive && decide (v = 0) } := by
  by_cases hv : v = 0
  · simp only [ioWrite, if_pos hv, decide_eq_true hv, Bool.and_true]
  · simp only [ioWrite, if_neg hv, decide_eq_false hv, Bool.and_false]

/-- What the registers show that are not simply a stored byte, and the others. -/
theorem byteAt_ioRegisters (s : State) :
    byteAt s 0xFF01 = some s.serial.sb ∧
    byteAt s 0xFF02 = some (BitVec.ofNat 8 (0x7E + s.serial.sc7.toNat * 128 + s.serial.sc0.toNat)) ∧
    byteAt s 0xFF04 = some (BitVec.ofNat 8 (s.timer.sysclk.toNat / 256)) ∧
    byteAt s 0xFF07 = some (BitVec.ofNat 8 (0xF8 + s.timer.tac.toNat)) ∧
    byteAt s 0xFF0F = some (BitVec.ofNat 8 (0xE0 + s.iflag.toNat)) :=
  ⟨rfl, congrArg some (scRead_eq s.serial), congrArg some (divRead_eq s.timer), ioRead_tac s, ioRead_iflag s⟩

/-- Settles O49: each address is the register's own, each read and write that register's. -/
theorem ioRegistersReadAndWrite : Obligations.IoRegistersReadAndWrite := by
  refine ⟨fun s => ?_, fun s a v => readByte_of_byteAt_some, fun s a h1 h2 => ?_, fun s a v h => ?_, fun s v => ?_,
    fun s a v h1 h2 => ?_⟩
  · obtain ⟨hsb, hsc, hdiv, htac, hif⟩ := byteAt_ioRegisters s
    exact ⟨hsb, hsc, hdiv, rfl, rfl, htac, hif, rfl, rfl, rfl, rfl, rfl, rfl, rfl, rfl, rfl, rfl, rfl, rfl⟩
  · rw [byteAt_of_region_io (region_io (by omega) (by omega)), ioReg_sound h1 h2]
    rfl
  · have ha : a.toNat = 0xFF03 ∨ (0xFF08 ≤ a.toNat ∧ a.toNat ≤ 0xFF0E) ∨ (0xFF4C ≤ a.toNat ∧ a.toNat ≤ 0xFF4F) ∨
        (0xFF51 ≤ a.toNat ∧ a.toNat ≤ 0xFF7F) := h.imp_left fun h => by rw [h]; rfl
    have hregion : region a = .io .unmapped := by rw [region_io (by omega) (by omega), ioReg_unmapped ha]
    exact ⟨byteAt_of_region_io hregion, writeByte_of_region_io v hregion⟩
  · have hsel : field 4 2 v = BitVec.ofNat 2 (v.toNat / 16) := field_eq_ofNat 4 2 v
    have htac : field 0 3 v = BitVec.ofNat 3 v.toNat := (field_eq_ofNat 0 3 v).trans (by rw [pow_zero, Nat.div_one])
    have hif : field 0 5 v = BitVec.ofNat 5 v.toNat := (field_eq_ofNat 0 5 v).trans (by rw [pow_zero, Nat.div_one])
    have hstat : field 3 4 v = BitVec.ofNat 4 (v.toNat / 8) := field_eq_ofNat 3 4 v
    rw [← hsel, ← htac, ← hif, ← hstat]
    exact ⟨rfl, rfl, rfl, rfl, rfl, rfl, rfl, rfl, rfl, rfl, rfl, rfl, rfl, rfl, rfl, rfl, rfl, ioWrite_bootOff 0xFF50 v s⟩
  · rw [writeByte_of_region_io v (region_io (by omega) (by omega)), ioReg_sound h1 h2]
    rfl

end Sys2Proof.Machine
end

