-- ==== Sys2Proof/Proofs/PlainRam.lean ====
section
/-! SUPPORT. Plain RAM reads back what was stored (20_memory.md R43, R51, R53), on the stack too (10_state.md R18), the register file as
views of its cells (10_state.md R10 to R15), and the OAM copy (20_memory.md R58). -/

namespace Sys2Proof.Machine

/-! ### A store to plain RAM -/

/-- The three ranges of plain storage (20_memory.md R42). -/
theorem plainRam_iff (a : Word) :
    plainRam a = true ↔ (0x8000 ≤ a.toNat ∧ a.toNat ≤ 0x9FFF) ∨ (0xC000 ≤ a.toNat ∧ a.toNat ≤ 0xFE9F) ∨
      (0xFF80 ≤ a.toNat ∧ a.toNat ≤ 0xFFFE) := by
  simp only [plainRam, Bool.or_eq_true, decide_eq_true_eq, or_assoc]

/-- A store to plain RAM reaches its own cell alone (20_memory.md R48). -/
theorem storeReaches_of_plainRam {a b : Word} (ha : plainRam a = true) (hcell : storageCell b ≠ storageCell a) :
    storeReaches a b = false := by
  have hrange := (plainRam_iff a).mp ha
  dsimp only [storeReaches]
  iterate 9 rw [if_neg (by omega)]
  exact decide_eq_false hcell

/-- Two plain addresses of one cell lie in one region, at one offset: the echo is work RAM (20_memory.md R53). -/
theorem region_eq_of_storageCell_eq {a b : Word} (ha : plainRam a = true) (hb : plainRam b = true)
    (hcell : storageCell b = storageCell a) : region b = region a := by
  have hra := (plainRam_iff a).mp ha
  have hrb := (plainRam_iff b).mp hb
  rcases storageCell_cases a with ⟨ha1, ha2, hca⟩ | ⟨hae, hca⟩ <;>
    rcases storageCell_cases b with ⟨hb1, hb2, hcb⟩ | ⟨hbe, hcb⟩
  · have hab : b = a := BitVec.eq_of_toNat_eq (by omega)
    rw [hab]
  · have hoff : b.toNat - 0xC000 = a.toNat - 0xE000 := by omega
    rw [region_wram (a := b) (by omega) (by omega), region_echo ha1 ha2, hoff]
  · have hoff : b.toNat - 0xE000 = a.toNat - 0xC000 := by omega
    rw [region_echo (a := b) hb1 hb2, region_wram (by omega) (by omega), hoff]
  · have hab : b = a := BitVec.eq_of_toNat_eq (by omega)
    rw [hab]

/-- A plain address lies in one of the four memories of the block. -/
theorem region_of_plainRam {a : Word} (h : plainRam a = true) :
    ∃ off, region a = .vram off ∨ region a = .wram off ∨ region a = .oam off ∨ region a = .hram off := by
  have hrange := (plainRam_iff a).mp h
  by_cases hvram : a.toNat ≤ 0x9FFF
  · exact ⟨_, .inl (region_vram (by omega) hvram)⟩
  · by_cases hwram : a.toNat ≤ 0xDFFF
    · exact ⟨_, .inr (.inl (region_wram (by omega) hwram))⟩
    · by_cases hecho : a.toNat ≤ 0xFDFF
      · exact ⟨_, .inr (.inl (region_echo (by omega) hecho))⟩
      · by_cases hoam : a.toNat ≤ 0xFE9F
        · exact ⟨_, .inr (.inr (.inl (region_oam (by omega) hoam)))⟩
        · exact ⟨_, .inr (.inr (.inr (region_hram (by omega) (by omega))))⟩

/-- The byte stored is read back at every address of the cell (20_memory.md R43, R53). -/
theorem byteAt_writeByte_of_same_region {a b : Word} (v : Byte) (s : State) (h : s.Inv) (ha : plainRam a = true)
    (hregion : region b = region a) : byteAt (writeByte a v s) b = some v := by
  obtain ⟨off, hr | hr | hr | hr⟩ := region_of_plainRam ha
  · rw [writeByte_of_region_vram v hr, byteAt_of_region_vram (hregion.trans hr), Memory.get_set _ _ _ _ _ h.vramWf, if_pos rfl]
  · rw [writeByte_of_region_wram v hr, byteAt_of_region_wram (hregion.trans hr), Memory.get_set _ _ _ _ _ h.wramWf, if_pos rfl]
  · rw [writeByte_of_region_oam v hr, byteAt_of_region_oam (hregion.trans hr), Memory.get_set _ _ _ _ _ h.oamWf, if_pos rfl]
  · rw [writeByte_of_region_hram v hr, byteAt_of_region_hram (hregion.trans hr), Memory.get_set _ _ _ _ _ h.hramWf, if_pos rfl]

/-- Settles O29: the same cell is the same region and offset, another cell is not reached. -/
theorem plainStoreReadsBack : Obligations.PlainStoreReadsBack := by
  intro s a b v hi ha hb
  by_cases hcell : storageCell b = storageCell a
  · rw [if_pos hcell]
    exact byteAt_writeByte_of_same_region v s hi ha (region_eq_of_storageCell_eq ha hb hcell)
  · rw [if_neg hcell]
    exact byteAt_writeByte a b v s hi (storeReaches_of_plainRam ha hcell)

/-! ### The register file -/

theorem f_toNat (s : State) :
    s.f.toNat = s.fZ.toNat * 128 + s.fN.toNat * 64 + s.fH.toNat * 32 + s.fC.toNat * 16 := by
  rw [State.f, append_toNat, append_toNat, append_toNat, append_toNat]
  simp only [BitVec.toNat_ofBool, BitVec.toNat_ofNat]
  omega

theorem af_toNat (s : State) : s.af.toNat = s.a.toNat * 256 + s.f.toNat := word_toNat s.a s.f

/-- The bits a write of AF keeps (10_state.md R12). -/
theorem and_0xFFF0_toNat (v : Word) : (v &&& 0xFFF0).toNat = v.toNat / 16 * 16 := by
  have hmask : (0xFFF0 : Word) = BitVec.allOnes 16 <<< 4 := by decide
  have hv := v.isLt
  rw [hmask, ← BitVec.shiftLeft_ushiftRight, BitVec.toNat_shiftLeft, BitVec.toNat_ushiftRight, Nat.shiftRight_eq_div_pow,
    Nat.shiftLeft_eq]
  omega

/-- A word written to AF comes back without bits 3 to 0 (10_state.md R12). -/
theorem af_setStackPair (s : State) (v : Word) : (s.setStackPair .af v).af = v &&& 0xFFF0 := by
  apply BitVec.eq_of_toNat_eq
  have hbit (k : Nat) : (v.getLsbD k).toNat = v.toNat / 2 ^ k % 2 := by rw [BitVec.getLsbD, Nat.toNat_testBit]
  have hhi : (hiByte v).toNat = v.toNat / 256 := by
    have hv := v.isLt
    rw [hiByte, BitVec.toNat_ofNat]
    omega
  rw [and_0xFFF0_toNat, af_toNat, f_toNat]
  simp only [State.setStackPair, hbit, hhi]
  omega

/-- F has no bits below 4, so that AF is a word AF can hold. -/
theorem af_and_0xFFF0 (s : State) : s.af &&& 0xFFF0 = s.af := by
  apply BitVec.eq_of_toNat_eq
  rw [and_0xFFF0_toNat, af_toNat, f_toNat]
  omega

theorem pair_setPair (s : State) (p : Pair16) (v : Word) : (s.setPair p v).pair p = v := by
  cases p with
  | sp => rfl
  | bc | de | hl => exact word_hi_lo v

theorem stackPair_setStackPair (s : State) {p : StackPair} (hp : p ≠ .af) (v : Word) :
    (s.setStackPair p v).stackPair p = v := by
  cases p with
  | af => exact absurd rfl hp
  | bc | de | hl => exact word_hi_lo v

/-- Settles O22: the cells by cases, the pairs as words of their cells, AF through its mask. -/
theorem registerViews : Obligations.RegisterViews :=
  ⟨fun s x y v => reg_setReg s x y v, fun s x v => (by cases x <;> rfl),
    fun s => ⟨word_toNat s.b s.c, word_toNat s.d s.e, word_toNat s.h s.l⟩, pair_setPair,
    fun _ _ => ⟨rfl, rfl, rfl, rfl⟩, f_toNat, af_toNat, fun s v => ⟨af_setStackPair s v, rfl⟩⟩

/-! ### Push and pop -/

/-- The two bytes of a push are read back where a pop reads them. -/
theorem popValue_push16 (v : Word) (s : State) (hi : s.Inv) (hhigh : plainRam (s.sp - 1) = true)
    (hlow : plainRam (s.sp - 2) = true) : popValue (push16 v s) = v := by
  have hinv0 : State.Inv { s with sp := s.sp - 2 } := { hi with }
  have hinv1 := writeByte_inv (s.sp - 1) (hiByte v) _ hinv0
  have hcells : storageCell (s.sp - 1) ≠ storageCell (s.sp - 2) := by
    have h1 := (plainRam_iff (s.sp - 1)).mp hhigh
    have h2 := (plainRam_iff (s.sp - 2)).mp hlow
    have hnext : (s.sp - 1).toNat = (s.sp - 2).toNat + 1 := by bv_omega
    have hc1 := storageCell_cases (s.sp - 1)
    have hc2 := storageCell_cases (s.sp - 2)
    omega
  have hlowByte : byteAt (push16 v s) (s.sp - 2) = some (loByte v) := by
    rw [push16_eq, plainStoreReadsBack _ _ _ _ hinv1 hlow hlow, if_pos rfl]
  have hhighByte : byteAt (push16 v s) (s.sp - 1) = some (hiByte v) := by
    rw [push16_eq, plainStoreReadsBack _ _ _ _ hinv1 hlow hhigh, if_neg hcells, plainStoreReadsBack _ _ _ _ hinv0 hhigh hhigh,
      if_pos rfl]
  have hsp : s.sp - 2 + 1 = s.sp - 1 := by bv_omega
  rw [popValue, push16_sp, hsp, readByte_of_byteAt_some hlowByte, readByte_of_byteAt_some (s := (push16 v s).countRead) hhighByte,
    word_hi_lo]

/-- Settles O28: the pop reads the two bytes of the push, and the pair takes the word, AF through its mask. -/
theorem pushThenPopRestores : Obligations.PushThenPopRestores := by
  intro s p q hi hhigh hlow
  have hvalue : popValue (pushPair p s) = s.stackPair p := popValue_push16 (s.stackPair p) s hi hhigh hlow
  have hpair (r : StackPair) : (popPair r (pushPair p s)).stackPair r =
      ((popped (pushPair p s)).setStackPair r (s.stackPair p)).stackPair r := by
    rw [popPair, hvalue]
    cases r <;> rfl
  refine ⟨_, _, exec_push p s, exec_pop q _, ?_, ?_, ?_, ?_⟩
  · have hsp : s.sp - 2 + 2 = s.sp := by bv_omega
    rw [popPair_eq]
    exact (congrArg (· + 2) (push16_sp (s.stackPair p) s)).trans hsp
  · intro hq
    rw [hpair, stackPair_setStackPair _ hq]
  · rintro rfl
    rw [hpair]
    exact af_setStackPair _ _
  · rintro rfl
    rw [hpair]
    by_cases hq : q = .af
    · subst hq
      exact (af_setStackPair _ _).trans (af_and_0xFFF0 s)
    · rw [stackPair_setStackPair _ hq]

/-! ### The OAM copy -/

/-- A read below OAM's reach: it rests on no byte of OAM but its own (20_memory.md R42). -/
theorem byteAt_of_oam_agrees (s : State) (oam : Memory) (free : Free) (b : Word)
    (h : 0xFE00 ≤ b.toNat → b.toNat ≤ 0xFE9F → Memory.get oam (b.toNat - 0xFE00) = Memory.get s.oam (b.toNat - 0xFE00)) :
    byteAt { s with oam := oam, free := free } b = byteAt s b := by
  apply byteAt_congr
  case oam => exact h
  case rom => exact fun _ => ⟨rfl, rfl, fun _ => rfl⟩
  all_goals intros; rfl

theorem dmaSource_toNat (page : Byte) {i : Nat} (hi : i < 160) :
    (word page 0 + BitVec.ofNat 16 i).toNat = page.toNat * 256 + i := by
  have hp := page.isLt
  have h0 : (0 : Byte).toNat = 0 := rfl
  rw [BitVec.toNat_add, word_toNat, BitVec.toNat_ofNat, h0]
  omega

/-- What the copy has done after its first `n` bytes, from the state `s` it starts in. -/
structure DmaCopied (page : Byte) (s : State) (n : Nat) (t : State) : Prop where
  frame : t = { s with oam := t.oam, free := { s.free with reads := s.free.reads + n } }
  wf : Memory.wf 160 t.oam = true
  copied : ∀ i, i < n → Memory.get t.oam i =
    readByte { s with free := { s.free with reads := s.free.reads + i } } (BitVec.ofNat 16 (page.toNat * 256 + i))
  untouched : ∀ i, n ≤ i → Memory.get t.oam i = Memory.get s.oam i

/-- The next byte is read before it is stored, and OAM still holds its own there if OAM is the source page. -/
theorem DmaCopied.succ {page : Byte} {s t : State} {n : Nat} (h : DmaCopied page s n t) (hn : n < 160) :
    DmaCopied page s (n + 1) (dmaByte page t n) := by
  obtain ⟨hframe, hwf, hcopied, huntouched⟩ := h
  have haddr : word page 0 + BitVec.ofNat 16 n = BitVec.ofNat 16 (page.toNat * 256 + n) := by
    rw [← dmaSource_toNat page hn, BitVec.ofNat_toNat, BitVec.setWidth_eq]
  have hread : readByte t (word page 0 + BitVec.ofNat 16 n) =
      readByte { s with free := { s.free with reads := s.free.reads + n } } (BitVec.ofNat 16 (page.toNat * 256 + n)) := by
    have hagree := byteAt_of_oam_agrees s t.oam { s.free with reads := s.free.reads + n } (word page 0 + BitVec.ofNat 16 n)
      (fun h1 h2 => huntouched _ (by rw [dmaSource_toNat page hn] at h1 h2 ⊢; omega))
    rw [hframe, readByte, hagree, haddr]
    rfl
  refine ⟨?_, Memory.set_wf _ _ _ _ hwf hn, fun i hi => ?_, fun i hi => ?_⟩
  · rw [dmaByte, hframe]
    rfl
  · rw [dmaByte, Memory.get_set _ _ _ _ _ hwf]
    by_cases hin : i = n
    · rw [if_pos hin, hin, hread]
    · rw [if_neg hin, hcopied i (by omega)]
  · rw [dmaByte, Memory.get_set _ _ _ _ _ hwf, if_neg (by omega), huntouched i (by omega)]

theorem dmaCopied_range (page : Byte) (s : State) (hwf : Memory.wf 160 s.oam = true) (n : Nat) (hn : n ≤ 160) :
    DmaCopied page s n ((List.range n).foldl (dmaByte page) s) := by
  induction n with
  | zero => exact ⟨rfl, hwf, fun i hi => absurd hi (Nat.not_lt_zero i), fun _ _ => rfl⟩
  | succ n ih =>
    rw [List.range_succ, List.foldl_append]
    exact (ih (by omega)).succ (by omega)

/-- Settles O51: byte by byte, each read as the copy comes to it. -/
theorem oamDmaCopiesOnePage : Obligations.OamDmaCopiesOnePage := by
  intro s v hi
  obtain ⟨hframe, -, hcopied, -⟩ := dmaCopied_range v { s with dmaReg := v } hi.oamWf 160 (Nat.le_refl _)
  exact ⟨hframe, hcopied⟩

end Sys2Proof.Machine
end

