-- ==== Sys2Proof/Proofs/TimerTicks.lean ====
section
/-! SUPPORT. The timer: one tick as one equation, and the ticks of one count of TIMA (60_exceptions.md R270 to R274). -/

namespace Sys2Proof.Machine

/-! ### One tick -/

/-- TAC bit 2 by its number. -/
theorem tacEnable_eq (tac : BitVec 3) : tac.getLsbD 2 = decide (tac.toNat ≥ 4) := by revert tac; decide

/-- The divisor by the number of TAC bits 1 and 0 (60_exceptions.md R274). -/
theorem timaDivisor_eq (tac : BitVec 3) :
    timaDivisor tac = if tac.toNat % 4 = 0 then 1024 else if tac.toNat % 4 = 1 then 16
      else if tac.toNat % 4 = 2 then 64 else 256 := by
  revert tac; decide

theorem timaDivisor_pos (tac : BitVec 3) : 0 < timaDivisor tac := by revert tac; decide

theorem ofNat_toNat_succ {w : Nat} (x : BitVec w) : BitVec.ofNat w (x.toNat + 1) = x + 1#w := by
  rw [BitVec.ofNat_add, BitVec.ofNat_toNat, BitVec.setWidth_eq]

theorem withReloadPending_false {s : State} (hr : s.timer.reloadPending = false) :
    { s with timer := { s.timer with reloadPending := false } } = s := by rw [← hr]

/-- The delayed reload, pending or not (60_exceptions.md R272). -/
theorem tickReload_eq (s : State) :
    tickReload s =
      { s with iflag := if s.timer.reloadPending then s.iflag ||| 0b00100 else s.iflag
               timer := { s.timer with tima := if s.timer.reloadPending then s.timer.tma else s.timer.tima
                                       reloadPending := false } } := by
  unfold tickReload
  cases hr : s.timer.reloadPending with
  | true => rfl
  | false => exact (withReloadPending_false hr).symm

/-- TIMA's increment: its overflow is what leaves a reload pending (60_exceptions.md R273). -/
theorem bumpTima_eq (t : Timer) (hr : t.reloadPending = false) :
    bumpTima t = { t with tima := BitVec.ofNat 8 (t.tima.toNat + 1), reloadPending := decide (t.tima = 0xFF) } := by
  unfold bumpTima
  split
  case isTrue h => rw [h]; rfl
  case isFalse h => rw [ofNat_toNat_succ, decide_eq_false h, ← hr]; rfl

/-- Whether a tick in `s` counts TIMA (60_exceptions.md R273). -/
def timaCounts (s : State) : Bool := s.timer.tac.getLsbD 2 && decide (s.timer.sub + 1 ≥ timaDivisor s.timer.tac)

/-- The programmable counter, where no reload is pending: the reload comes before it in the tick (60_exceptions.md R270, R273). -/
theorem tickCounter_eq (s : State) (hr : s.timer.reloadPending = false) :
    tickCounter s =
      { s with timer := { s.timer with
          sub := if timaCounts s then 0 else if s.timer.tac.getLsbD 2 then s.timer.sub + 1 else s.timer.sub
          tima := if timaCounts s then BitVec.ofNat 8 (s.timer.tima.toNat + 1) else s.timer.tima
          reloadPending := timaCounts s && decide (s.timer.tima = 0xFF) } } := by
  unfold tickCounter timaCounts
  cases s.timer.tac.getLsbD 2 with
  | false => exact (withReloadPending_false hr).symm
  | true =>
    by_cases hs : s.timer.sub + 1 ≥ timaDivisor s.timer.tac
    · rw [if_pos rfl, if_pos hs, decide_eq_true hs, bumpTima_eq { s.timer with sub := 0 } hr]; rfl
    · rw [if_pos rfl, if_neg hs, decide_eq_false hs]
      exact (withReloadPending_false (s := { s with timer := { s.timer with sub := s.timer.sub + 1 } }) hr).symm

/-- Settles O52, from the three parts of the tick, each as one equation. -/
theorem timerTickCounts : Obligations.TimerTickCounts := by
  intro s
  dsimp only
  rw [timerTick, tickReload_eq, tickCounter_eq _ rfl]
  simp only [timaCounts, tickDivider, ← tacEnable_eq, ← timaDivisor_eq, ofNat_toNat_succ]
  rfl

/-! ### As many ticks as the divisor -/

/-- A tick that does not reach the divisor moves the prescaler alone. -/
theorem timerTick_of_below {s : State} (hon : s.timer.tac.getLsbD 2 = true) (hr : s.timer.reloadPending = false)
    (h : s.timer.sub + 1 < timaDivisor s.timer.tac) :
    timerTick s = { s with timer := { s.timer with sysclk := s.timer.sysclk + 1, sub := s.timer.sub + 1 } } := by
  have hc : timaCounts (tickDivider s) = false := by
    show (s.timer.tac.getLsbD 2 && decide (s.timer.sub + 1 ≥ timaDivisor s.timer.tac)) = false
    rw [decide_eq_false (Nat.not_le_of_lt h), Bool.and_false]
  have hd : tickReload (tickDivider s) = tickDivider s := if_neg (by rw [tickDivider, hr]; exact Bool.false_ne_true)
  have hadv : (tickDivider s).timer.tac.getLsbD 2 = true := hon
  rw [timerTick, hd, tickCounter_eq (tickDivider s) hr, hc, Bool.false_and, if_neg Bool.false_ne_true, if_neg Bool.false_ne_true,
    if_pos hadv]
  exact withReloadPending_false
    (s := { s with timer := { s.timer with sysclk := s.timer.sysclk + 1, sub := s.timer.sub + 1 } }) hr

/-- The tick that reaches the divisor clears the prescaler and counts TIMA. -/
theorem timerTick_of_reached {s : State} (hon : s.timer.tac.getLsbD 2 = true) (hr : s.timer.reloadPending = false)
    (h : s.timer.sub + 1 = timaDivisor s.timer.tac) :
    timerTick s = { s with timer := { s.timer with sysclk := s.timer.sysclk + 1, sub := 0, tima := s.timer.tima + 1,
                                                   reloadPending := decide (s.timer.tima = 0xFF) } } := by
  have hc : timaCounts (tickDivider s) = true := by
    show (s.timer.tac.getLsbD 2 && decide (s.timer.sub + 1 ≥ timaDivisor s.timer.tac)) = true
    rw [hon, decide_eq_true (Nat.le_of_eq h.symm), Bool.and_true]
  have hd : tickReload (tickDivider s) = tickDivider s := if_neg (by rw [tickDivider, hr]; exact Bool.false_ne_true)
  rw [timerTick, hd, tickCounter_eq (tickDivider s) hr, hc, Bool.true_and, if_pos rfl, if_pos rfl, ofNat_toNat_succ]
  rfl

/-- Below the divisor, `m` ticks move the divider and the prescaler alone. -/
theorem timerStep_of_below (m : Nat) {s : State} (hon : s.timer.tac.getLsbD 2 = true) (hr : s.timer.reloadPending = false)
    (h : s.timer.sub + m < timaDivisor s.timer.tac) :
    ∃ clk, timerStep m s = { s with timer := { s.timer with sysclk := clk, sub := s.timer.sub + m } } := by
  induction m generalizing s with
  | zero => exact ⟨s.timer.sysclk, rfl⟩
  | succ m ih =>
    have ht := timerTick_of_below hon hr (by omega)
    obtain ⟨clk, hclk⟩ := ih (s := timerTick s) (by rw [ht]; exact hon) (by rw [ht]; exact hr) (by rw [ht]; dsimp only; omega)
    refine ⟨clk, ?_⟩
    rw [timerStep, repeatTick_succ, ← timerStep, hclk, ht, Nat.add_assoc, Nat.add_comm 1 m]

/-- From a cleared prescaler, as many ticks as the divisor count TIMA once; its overflow is pending, not yet reloaded. -/
theorem timerStep_divisor {s : State} (hon : s.timer.tac.getLsbD 2 = true) (hsub : s.timer.sub = 0)
    (hr : s.timer.reloadPending = false) :
    ∃ clk, timerStep (timaDivisor s.timer.tac) s =
      { s with timer := { s.timer with sysclk := clk, sub := 0, tima := s.timer.tima + 1,
                                       reloadPending := decide (s.timer.tima = 0xFF) } } := by
  have hpos := timaDivisor_pos s.timer.tac
  obtain ⟨m, hm⟩ : ∃ m, timaDivisor s.timer.tac = m + 1 := ⟨_, (Nat.succ_pred_eq_of_pos hpos).symm⟩
  obtain ⟨clk, hclk⟩ := timerStep_of_below m hon hr (by omega)
  refine ⟨clk + 1, ?_⟩
  have hlast : timerStep (m + 1) s = timerTick (timerStep m s) := repeatTick_add timerTick m 1 s
  have htick := timerTick_of_reached (s := timerStep m s) (by rw [hclk]; exact hon) (by rw [hclk]; exact hr)
    (by rw [hclk]; dsimp only; omega)
  rw [hm, hlast, htick, hclk]

/-- The tick after an overflow: the reload takes TMA and sets IF bit 2; the prescaler just cleared cannot count
(60_exceptions.md R272). -/
theorem timerTick_of_pending {s : State} (hr : s.timer.reloadPending = true) (hsub : s.timer.sub = 0) :
    (timerTick s).timer.tima = s.timer.tma ∧ (timerTick s).timer.reloadPending = false ∧
      (timerTick s).iflag = s.iflag ||| 0b00100 := by
  have hd : 1 < timaDivisor s.timer.tac := by generalize s.timer.tac = tac; revert tac; decide
  have hc : timaCounts (tickReload (tickDivider s)) = false := by
    rw [tickReload_eq]
    show (s.timer.tac.getLsbD 2 && decide (s.timer.sub + 1 ≥ timaDivisor s.timer.tac)) = false
    rw [hsub, decide_eq_false (Nat.not_le_of_lt hd), Bool.and_false]
  have hp : (tickReload (tickDivider s)).timer.reloadPending = false := by rw [tickReload_eq]
  rw [timerTick, tickCounter_eq _ hp, hc, Bool.false_and, if_neg Bool.false_ne_true, tickReload_eq]
  refine ⟨if_pos hr, rfl, if_pos hr⟩

/-- Settles O53, from the ticks below the divisor and the one that reaches it. -/
theorem timerCountsOncePerDivisor : Obligations.TimerCountsOncePerDivisor := by
  intro s m hon hsub hr
  obtain ⟨clk, hN⟩ := timerStep_divisor hon hsub hr
  refine ⟨fun hm => ?_, fun hne => ?_, fun hff => ?_⟩
  · obtain ⟨clk', hm'⟩ := timerStep_of_below m hon hr (by omega)
    rw [hm', hsub]
    exact ⟨rfl, Nat.zero_add m, rfl⟩
  · dsimp only
    rw [hN]
    exact ⟨rfl, rfl, decide_eq_false hne, rfl⟩
  · dsimp only
    have hnext := timerTick_of_pending (s := timerStep (timaDivisor s.timer.tac) s)
      (by rw [hN]; exact decide_eq_true hff) (by rw [hN])
    obtain ⟨htima, hpend, hif⟩ := hnext
    rw [htima, hpend, hif, hN]
    exact ⟨by rw [hff]; rfl, decide_eq_true hff, rfl, rfl, rfl, rfl⟩

end Sys2Proof.Machine
end

