-- ==== Sys2Proof/Proofs/LineMachine.lean ====
section
/-! SUPPORT. The PPU's line machine: LCDC bit 7, what one tick raises, and the frame as a position that goes round
(60_exceptions.md R280 to R290). -/

namespace Sys2Proof.Machine

/-! ### LCDC bit 7 -/

theorem ppuStep_of_off {s : State} (h : s.ppu.lcdc.getLsbD 7 = false) (n : Nat) : ppuStep n s = s :=
  repeatTick_keeps (P := fun t => t = s) (by rintro t rfl; exact ppuTick_off t h) n s rfl

/-- STAT as it reads, from its fields (60_exceptions.md R287). -/
theorem statRead_eq (p : Ppu) :
    statRead p = BitVec.ofNat 8 (0x80 + p.statEn.toNat * 8 + (if p.ly = p.lyc.toNat then 4 else 0) + p.mode.number.toNat) := by
  have hnumber : ∀ (e : BitVec 4) (b : Bool) (n : BitVec 2), 1#1 ++ e ++ BitVec.ofBool b ++ n =
      BitVec.ofNat 8 (0x80 + e.toNat * 8 + (if b then 4 else 0) + n.toNat) := by decide
  rw [statRead, hnumber]
  simp only [beq_iff_eq]

/-- The number STAT bits 1 and 0 show (10_state.md R25). -/
theorem PpuMode.number_toNat (m : PpuMode) :
    m.number.toNat = if m = .hblank then 0 else if m = .vblank then 1 else if m = .oamScan then 2 else 3 := by
  cases m <;> rfl

/-- Settles O54, from the three arms of the LCDC write. -/
theorem lcdEnableGatesLineMachine : Obligations.LcdEnableGatesLineMachine := by
  have hwrite : ∀ v s, writeByte 0xFF40 v s = lcdcWrite v s := fun _ _ => rfl
  refine ⟨fun s n h => ppuStep_of_off h n, fun s hinv h => ?_, fun s v hs hv => ?_, fun s v hs hv => ?_, fun s v hsv => ?_⟩
  · obtain ⟨hly, -, hmode⟩ := hinv.lcdOff h
    have hLY : byteAt s 0xFF44 = some (BitVec.ofNat 8 s.ppu.ly) := rfl
    have hSTAT : byteAt s 0xFF41 = some (statRead s.ppu) := rfl
    refine ⟨by rw [hLY, hly]; rfl, _, hSTAT, ?_⟩
    rw [statRead_eq, hmode, PpuMode.number_toNat, if_pos rfl, BitVec.toNat_ofNat]
    split <;> omega
  · rw [hwrite, lcdcWrite, lcdOn, hs, hv]
  · rw [hwrite, lcdcWrite, lcdOn, hs, hv]; rfl
  · rw [hwrite, lcdcWrite, lcdOn, hsv]
    cases v.getLsbD 7 <;> rfl

/-! ### What one tick raises -/

theorem raiseIf_getLsbD {k : Nat} (hk : k < 5) (s : State) (j : Nat) :
    (raiseIf k s).iflag.getLsbD j = (s.iflag.getLsbD j || decide (k = j)) := by
  rw [raiseIf, BitVec.getLsbD_or, BitVec.getLsbD_twoPow, decide_eq_true hk, Bool.true_and]

/-- The line comparison raises STAT's bit alone (60_exceptions.md R286). -/
theorem lineCompare_getLsbD (s : State) (k : Nat) :
    (lineCompare s).iflag.getLsbD k =
      (s.iflag.getLsbD k || (decide (1 = k) && (decide (s.ppu.ly = s.ppu.lyc.toNat) && s.ppu.statEn.getLsbD 3))) := by
  unfold lineCompare
  split
  case isTrue h => rw [raiseIf_getLsbD (by omega), decide_eq_true h.1, h.2, Bool.and_self, Bool.and_true]
  case isFalse h =>
    have hoff : (decide (s.ppu.ly = s.ppu.lyc.toNat) && s.ppu.statEn.getLsbD 3) = false := by simpa using h
    rw [hoff, Bool.and_false, Bool.or_false]

theorem lineCompare_events (s : State) : (lineCompare s).events = s.events := by unfold lineCompare; split <;> rfl

/-- What the position part of a tick raises: the line comparison, on a new line only (60_exceptions.md R282, R286). -/
theorem tickPosition_getLsbD (s : State) (k : Nat) :
    (tickPosition s).iflag.getLsbD k =
      (s.iflag.getLsbD k || (decide (1 = k) && (decide (s.ppu.dot + 1 = 456) &&
        (decide ((tickPosition s).ppu.ly = s.ppu.lyc.toNat) && s.ppu.statEn.getLsbD 3)))) := by
  by_cases hd : s.ppu.dot + 1 = 456
  · have hnext : tickPosition s = nextLine s := if_pos hd
    rw [decide_eq_true hd, Bool.true_and, tickPosition_next s hd, hnext, nextLine, lineCompare_getLsbD]
    split <;> rfl
  · rw [tickPosition_same s hd, decide_eq_false hd, Bool.false_and, Bool.and_false, Bool.or_false]

theorem tickPosition_events (s : State) : (tickPosition s).events = s.events := by
  unfold tickPosition
  split
  · rw [nextLine, lineCompare_events]; split <;> rfl
  · rfl

/-- What entering a mode raises in STAT's bit (60_exceptions.md R284, R285). -/
def statRaisedBy (m : PpuMode) (statEn : BitVec 4) : Bool :=
  match m with
  | .oamScan => statEn.getLsbD 2
  | .hblank => statEn.getLsbD 0
  | .vblank => statEn.getLsbD 1
  | .transfer => false

theorem raiseStat_getLsbD (b : Bool) (s : State) (k : Nat) :
    (if b then raiseIf 1 s else s).iflag.getLsbD k = (s.iflag.getLsbD k || (decide (1 = k) && b)) := by
  cases b with
  | false => rw [if_neg Bool.false_ne_true, Bool.and_false, Bool.or_false]
  | true => rw [if_pos rfl, raiseIf_getLsbD (by omega), Bool.and_true]

/-- What entering a mode raises in IF (60_exceptions.md R284, R285). -/
theorem modeEntry_getLsbD (m : PpuMode) (s : State) (k : Nat) :
    (modeEntry m s).iflag.getLsbD k =
      (s.iflag.getLsbD k || (decide (0 = k) && decide (m = .vblank)) || (decide (1 = k) && statRaisedBy m s.ppu.statEn)) := by
  cases m with
  | oamScan => exact (raiseStat_getLsbD _ s k).trans (by simp [statRaisedBy])
  | hblank => exact (raiseStat_getLsbD _ s k).trans (by simp [statRaisedBy])
  | vblank =>
    have hraise := raiseStat_getLsbD (s.ppu.statEn.getLsbD 1) (raiseIf 0 s) k
    rw [raiseIf_getLsbD (by omega)] at hraise
    rw [decide_eq_true rfl, Bool.and_true]
    exact hraise
  | transfer => simp [modeEntry, statRaisedBy]

theorem modeEntry_events (m : PpuMode) (s : State) :
    (modeEntry m s).events = if m = .vblank then .screenDraw :: s.events else s.events := by
  have hraise : ∀ (b : Bool) (t : State), (if b then raiseIf 1 t else t).events = t.events := by
    intro b t; cases b <;> rfl
  cases m with
  | oamScan => exact hraise _ s
  | hblank => exact hraise _ s
  | vblank => exact congrArg (.screenDraw :: ·) (hraise _ (raiseIf 0 s))
  | transfer => rfl

/-- What the mode part of a tick raises: what the mode it enters raises, nothing when it stays (60_exceptions.md R284). -/
theorem tickMode_getLsbD (s : State) (k : Nat) :
    (tickMode s).iflag.getLsbD k =
      (s.iflag.getLsbD k || (decide (0 = k) && decide ((tickMode s).ppu.mode = .vblank ∧ s.ppu.mode ≠ .vblank)) ||
        (decide (1 = k) && (decide ((tickMode s).ppu.mode ≠ s.ppu.mode) &&
          statRaisedBy (tickMode s).ppu.mode s.ppu.statEn))) := by
  rw [tickMode_ppu, tickMode]
  generalize ppuModeAt s.ppu.ly s.ppu.dot s.ppu.m3len = m
  dsimp only
  by_cases hm : m = s.ppu.mode
  · rw [if_pos hm]
    simp [hm]
  · rw [if_neg hm, modeEntry_getLsbD]
    have hentered : decide (m = .vblank ∧ s.ppu.mode ≠ .vblank) = decide (m = .vblank) :=
      decide_eq_decide.mpr ⟨And.left, fun h => ⟨h, fun h' => hm (h.trans h'.symm)⟩⟩
    rw [hentered, decide_eq_true hm, Bool.true_and]

theorem tickMode_events (s : State) :
    (tickMode s).events = if (tickMode s).ppu.mode = .vblank ∧ s.ppu.mode ≠ .vblank then .screenDraw :: s.events
      else s.events := by
  rw [tickMode_ppu, tickMode]
  generalize ppuModeAt s.ppu.ly s.ppu.dot s.ppu.m3len = m
  dsimp only
  by_cases hm : m = s.ppu.mode
  · rw [if_pos hm, if_neg (fun h => h.2 (hm ▸ h.1))]
  · rw [if_neg hm, modeEntry_events]
    exact if_congr ⟨fun h => ⟨h, fun h' => hm (h.trans h'.symm)⟩, And.left⟩ rfl rfl

/-! ### One tick with the LCD on -/

theorem ppuTick_on {s : State} (h : s.ppu.lcdc.getLsbD 7 = true) : ppuTick s = tickMode (tickPosition s) := if_pos h

/-- Where the position part of a tick leaves the line machine (60_exceptions.md R282, R289). -/
theorem tickPosition_ppu (s : State) :
    ∃ n, (172 ≤ n ∧ n ≤ 289) ∧ (tickPosition s).ppu =
      { s.ppu with dot := if s.ppu.dot + 1 = 456 then 0 else s.ppu.dot + 1
                   ly := if s.ppu.dot + 1 = 456 then (s.ppu.ly + 1) % 154 else s.ppu.ly
                   m3len := if s.ppu.dot + 1 = 456 ∧ (s.ppu.ly + 1) % 154 ≤ 143 then n else s.ppu.m3len } := by
  refine ⟨Config.mode3Len s.free.lines ((s.ppu.ly + 1) % 154), mode3Len_range _ _, ?_⟩
  by_cases hd : s.ppu.dot + 1 = 456
  · rw [tickPosition_next s hd]
    simp only [hd, true_and, if_true]
  · rw [tickPosition_same s hd]
    simp only [hd, false_and, if_false]

/-- Whether a tick from `s` to `t` enters mode `m`. -/
def entersMode (s t : State) (m : PpuMode) : Bool := decide (t.ppu.mode = m ∧ s.ppu.mode ≠ m)

/-- STAT's bit by the mode entered (60_exceptions.md R284, R285). -/
theorem statRaisedBy_entersMode (s t : State) (e : BitVec 4) :
    (decide (t.ppu.mode ≠ s.ppu.mode) && statRaisedBy t.ppu.mode e) =
      ((entersMode s t .oamScan && e.getLsbD 2) || (entersMode s t .hblank && e.getLsbD 0) ||
        (entersMode s t .vblank && e.getLsbD 1)) := by
  unfold entersMode
  generalize s.ppu.mode = m
  cases t.ppu.mode <;> simp [statRaisedBy, eq_comm]

/-- The PPU after a tick (60_exceptions.md R282, R283). -/
theorem ppuTick_ppu {s : State} (hon : s.ppu.lcdc.getLsbD 7 = true) :
    (ppuTick s).ppu =
      { (tickPosition s).ppu with
        mode := ppuModeAt (tickPosition s).ppu.ly (tickPosition s).ppu.dot (tickPosition s).ppu.m3len } := by
  rw [ppuTick_on hon, tickMode_ppu]

/-- The IF bits after a tick (60_exceptions.md R284 to R286). -/
theorem ppuTick_getLsbD {s : State} (hon : s.ppu.lcdc.getLsbD 7 = true) (k : Nat) :
    (ppuTick s).iflag.getLsbD k =
      (s.iflag.getLsbD k || (decide (0 = k) && entersMode s (ppuTick s) .vblank) ||
        (decide (1 = k) &&
          ((decide (s.ppu.dot + 1 = 456) && decide ((ppuTick s).ppu.ly = s.ppu.lyc.toNat) && s.ppu.statEn.getLsbD 3) ||
          (entersMode s (ppuTick s) .oamScan && s.ppu.statEn.getLsbD 2) ||
          (entersMode s (ppuTick s) .hblank && s.ppu.statEn.getLsbD 0) ||
          (entersMode s (ppuTick s) .vblank && s.ppu.statEn.getLsbD 1)))) := by
  obtain ⟨n, -, hp⟩ := tickPosition_ppu s
  have hmode : (tickPosition s).ppu.mode = s.ppu.mode := by rw [hp]
  have hstat : (tickPosition s).ppu.statEn = s.ppu.statEn := by rw [hp]
  have hly : (ppuTick s).ppu.ly = (tickPosition s).ppu.ly := by rw [ppuTick_ppu hon]
  have hbits := tickMode_getLsbD (tickPosition s) k
  have hentered : decide ((ppuTick s).ppu.mode = .vblank ∧ s.ppu.mode ≠ .vblank) = entersMode s (ppuTick s) .vblank := rfl
  rw [← ppuTick_on hon, hmode, hstat, statRaisedBy_entersMode, tickPosition_getLsbD, ← hly, hentered] at hbits
  rw [hbits]
  simp only [Bool.and_or_distrib_left, Bool.and_assoc]
  ac_rfl

theorem ppuTick_events {s : State} (hon : s.ppu.lcdc.getLsbD 7 = true) :
    (ppuTick s).events = if entersMode s (ppuTick s) .vblank then .screenDraw :: s.events else s.events := by
  obtain ⟨n, -, hp⟩ := tickPosition_ppu s
  have hmode : (tickPosition s).ppu.mode = s.ppu.mode := by rw [hp]
  have hevents := tickMode_events (tickPosition s)
  rw [← ppuTick_on hon, hmode, tickPosition_events] at hevents
  rw [hevents, entersMode]
  simp only [decide_eq_true_eq]

/-- Settles O55, from the position and the mode part of the tick. -/
theorem ppuTickMovesAndRaises : Obligations.PpuTickMovesAndRaises := by
  refine ⟨fun s hon => ?_, fun s => ?_⟩
  · obtain ⟨n, hn, hp⟩ := tickPosition_ppu s
    have ht := ppuTick_ppu hon
    have hbits := ppuTick_getLsbD hon
    dsimp only
    simp only [decide_eq_true_eq]
    have hly : (ppuTick s).ppu.ly = if s.ppu.dot + 1 = 456 then (s.ppu.ly + 1) % 154 else s.ppu.ly := by rw [ht, hp]
    have hdot : (ppuTick s).ppu.dot = if s.ppu.dot + 1 = 456 then 0 else s.ppu.dot + 1 := by rw [ht, hp]
    have hm3 : (ppuTick s).ppu.m3len =
        if s.ppu.dot + 1 = 456 ∧ (s.ppu.ly + 1) % 154 ≤ 143 then n else s.ppu.m3len := by rw [ht, hp]
    refine ⟨(ppuTick_move s).ppu, hdot, hly, fun hq => ?_, fun hq => ?_, ?_, ?_, ?_, fun k hk => ?_, ?_, ppuTick_fields s⟩
    · rw [hm3, if_neg]
      rintro ⟨hd, hl⟩
      exact hq ⟨hd, by rwa [hly, if_pos hd]⟩
    · obtain ⟨hd, hl⟩ := hq
      rw [hly, if_pos hd] at hl
      rw [hm3, if_pos ⟨hd, hl⟩]
      exact hn
    · rw [ht]; rfl
    · rw [hbits 0]; simp [entersMode]
    · rw [hbits 1]; simp [entersMode, Bool.or_assoc]
    · rw [hbits k, decide_eq_false (by omega : ¬ 0 = k), decide_eq_false (by omega : ¬ 1 = k)]
      simp
    · rw [ppuTick_events hon, entersMode]; simp only [decide_eq_true_eq]
  · have hSTAT : byteAt s 0xFF41 = some (statRead s.ppu) := rfl
    rw [hSTAT, statRead_eq, PpuMode.number_toNat]

/-! ### The frame -/

/-- The machine with the LCD on, as the frame's laws need it. -/
structure LcdRunning (s : State) : Prop where
  inv : s.Inv
  on : s.ppu.lcdc.getLsbD 7 = true

theorem LcdRunning.tick {s : State} (h : LcdRunning s) : LcdRunning (ppuTick s) where
  inv := ppuTick_inv s h.inv
  on := by rw [(ppuTick_move s).ppu]; exact h.on

theorem LcdRunning.step {s : State} (h : LcdRunning s) (n : Nat) : LcdRunning (ppuStep n s) :=
  repeatTick_keeps (P := LcdRunning) (fun _ h => h.tick) n s h

theorem LcdRunning.framePosition_lt {s : State} (h : LcdRunning s) : framePosition s.ppu < 70224 := by
  have hly := h.inv.ly
  have hdot := h.inv.dot
  unfold framePosition
  omega

/-- One tick moves the position by one, around the frame (60_exceptions.md R282). -/
theorem LcdRunning.framePosition_tick {s : State} (h : LcdRunning s) :
    framePosition (ppuTick s).ppu = (framePosition s.ppu + 1) % 70224 := by
  obtain ⟨n, -, hp⟩ := tickPosition_ppu s
  have hly := h.inv.ly
  have hdot := h.inv.dot
  rw [ppuTick_ppu h.on, hp]
  unfold framePosition
  dsimp only
  split <;> omega

theorem ppuStep_succ (n : Nat) (s : State) : ppuStep (n + 1) s = ppuTick (ppuStep n s) := repeatTick_add ppuTick n 1 s

theorem LcdRunning.framePosition_step {s : State} (h : LcdRunning s) (n : Nat) :
    framePosition (ppuStep n s).ppu = (framePosition s.ppu + n) % 70224 := by
  induction n with
  | zero => rw [Nat.add_zero, Nat.mod_eq_of_lt h.framePosition_lt]; rfl
  | succ n ih => rw [ppuStep_succ, (h.step n).framePosition_tick, ih, Nat.mod_add_mod, Nat.add_assoc]

/-- Settles O56, by induction on the ticks. -/
theorem framePositionAdvances : Obligations.FramePositionAdvances := by
  intro s n hinv hon
  have hmove : PeripheralMove s (ppuStep n s) := PeripheralMove.repeatTick ppuTick_move n s
  exact ⟨LcdRunning.framePosition_step ⟨hinv, hon⟩ n, by rw [hmove.ppu]⟩

/-- The mode is v-blank from line 144 on (60_exceptions.md R283). -/
theorem LcdRunning.mode_eq_vblank_iff {s : State} (h : LcdRunning s) :
    s.ppu.mode = .vblank ↔ 65664 ≤ framePosition s.ppu := by
  have hdot := h.inv.dot
  rw [h.inv.lcdMode h.on]
  unfold ppuModeAt framePosition
  split
  case isTrue hly => exact ⟨fun _ => by omega, fun _ => rfl⟩
  case isFalse hly =>
    have hpos : ¬ 65664 ≤ s.ppu.ly * 456 + s.ppu.dot := by omega
    refine ⟨fun hm => ?_, fun hpos' => absurd hpos' hpos⟩
    split at hm
    · cases hm
    · split at hm <;> cases hm

/-- A tick enters v-blank exactly from the last dot of line 143 (60_exceptions.md R285). -/
theorem LcdRunning.entersVblank {s : State} (h : LcdRunning s) :
    entersMode s (ppuTick s) .vblank = decide (framePosition s.ppu = 65663) := by
  have hlt := h.framePosition_lt
  refine decide_eq_decide.mpr ?_
  rw [ne_eq, h.tick.mode_eq_vblank_iff, h.mode_eq_vblank_iff, h.framePosition_tick]
  omega

/-- No frame is signalled between `s` and `t`, and the VBlank bit stays. -/
def VblankQuiet (s t : State) : Prop := t.events = s.events ∧ t.iflag.getLsbD 0 = s.iflag.getLsbD 0

/-- A tick from elsewhere signals no frame. -/
theorem LcdRunning.quiet_tick {s : State} (h : LcdRunning s) (hpos : framePosition s.ppu ≠ 65663) :
    VblankQuiet s (ppuTick s) := by
  have hnot : entersMode s (ppuTick s) .vblank = false := h.entersVblank.trans (decide_eq_false hpos)
  refine ⟨by rw [ppuTick_events h.on, hnot]; rfl, ?_⟩
  rw [ppuTick_getLsbD h.on, hnot]
  simp

/-- The tick that reaches line 144 signals one frame and sets the VBlank bit (60_exceptions.md R285). -/
theorem LcdRunning.vblank_tick {s : State} (h : LcdRunning s) (hpos : framePosition s.ppu = 65663) :
    (ppuTick s).events = .screenDraw :: s.events ∧ (ppuTick s).iflag.getLsbD 0 = true := by
  have henters : entersMode s (ppuTick s) .vblank = true := h.entersVblank.trans (decide_eq_true hpos)
  refine ⟨by rw [ppuTick_events h.on, henters]; rfl, ?_⟩
  rw [ppuTick_getLsbD h.on, henters]
  simp

/-- Ticks that never start on the last dot of line 143 signal no frame. -/
theorem LcdRunning.quiet_step {s : State} (h : LcdRunning s) (n : Nat)
    (hpos : ∀ j, j < n → (framePosition s.ppu + j) % 70224 ≠ 65663) : VblankQuiet s (ppuStep n s) := by
  induction n with
  | zero => exact ⟨rfl, rfl⟩
  | succ n ih =>
    obtain ⟨hevents, hbit⟩ := ih (fun j hj => hpos j (Nat.lt_succ_of_lt hj))
    have hlast : framePosition (ppuStep n s).ppu ≠ 65663 := by
      rw [h.framePosition_step]; exact hpos n (Nat.lt_succ_self n)
    obtain ⟨hevents', hbit'⟩ := (h.step n).quiet_tick hlast
    rw [ppuStep_succ]
    exact ⟨hevents'.trans hevents, hbit'.trans hbit⟩

theorem ppuStep_add (m n : Nat) (s : State) : ppuStep (m + n) s = ppuStep n (ppuStep m s) := repeatTick_add ppuTick m n s

/-- A run of ticks with the start of v-blank inside: quiet before it and quiet after it. -/
theorem LcdRunning.one_vblank {s : State} (h : LcdRunning s) (m n : Nat)
    (hpos : (framePosition s.ppu + m) % 70224 = 65663) (hm : m < 70224) (hn : n < 70224) :
    (ppuStep (m + 1 + n) s).events = .screenDraw :: s.events ∧ (ppuStep (m + 1 + n) s).iflag.getLsbD 0 = true := by
  obtain ⟨hevents, -⟩ := h.quiet_step m (fun j hj => by omega)
  have hat : framePosition (ppuStep m s).ppu = 65663 := by rw [h.framePosition_step, hpos]
  obtain ⟨hdraw, hset⟩ := (h.step m).vblank_tick hat
  rw [← ppuStep_succ] at hdraw hset
  have hnext : framePosition (ppuStep (m + 1) s).ppu = 65664 := by rw [h.framePosition_step]; omega
  obtain ⟨hevents', hbit'⟩ := (h.step (m + 1)).quiet_step n (fun j hj => by rw [hnext]; omega)
  rw [ppuStep_add]
  exact ⟨hevents'.trans (hdraw.trans (congrArg _ hevents)), hbit'.trans hset⟩

/-- Settles O57: the one tick of a frame that reaches line 144, with quiet ticks on both sides. -/
theorem oneVBlankPerFrame : Obligations.OneVBlankPerFrame := by
  intro s hinv hon
  have h : LcdRunning s := ⟨hinv, hon⟩
  have hlt := h.framePosition_lt
  obtain ⟨m, n, hmn, hpos⟩ : ∃ m n, m + 1 + n = 70224 ∧ (framePosition s.ppu + m) % 70224 = 65663 :=
    ⟨(135887 - framePosition s.ppu) % 70224, 70223 - (135887 - framePosition s.ppu) % 70224, by omega, by omega⟩
  obtain ⟨hevents, hbit⟩ := h.one_vblank m n hpos (by omega) (by omega)
  rw [hmn] at hevents hbit
  refine ⟨?_, hbit, fun k hk => h.quiet_step k (fun j hj => ?_)⟩
  · rw [hevents, List.count_cons_self]
  · split at hk <;> omega

end Sys2Proof.Machine
end

