-- ==== Sys2Proof/Proofs/HostInputs.lean ====
section
/-! SUPPORT. What reaches the machine from outside: the joypad register and its polls, and the serial interface
(60_exceptions.md R300 to R303). -/

namespace Sys2Proof.Machine

/-! ### P1 -/

/-- A line of P1 reads 0 while a button of a selected group holds it (60_exceptions.md R300). -/
theorem p1Line_toNat (sel : BitVec 2) (direction action : Bool) :
    (p1Line sel direction action).toNat =
      if (sel.getLsbD 0 = false ∧ direction = true) ∨ (sel.getLsbD 1 = false ∧ action = true) then 0 else 1 := by
  revert sel direction action; decide

/-- P1 as it reads, from `sel` and the four lines (60_exceptions.md R300). -/
theorem p1Read_eq (j : Joypad) :
    p1Read j = BitVec.ofNat 8 (0xC0 + j.sel.toNat * 16 + (p1Line j.sel j.buttonsPrev.down j.buttonsPrev.start).toNat * 8 +
      (p1Line j.sel j.buttonsPrev.up j.buttonsPrev.select).toNat * 4 +
      (p1Line j.sel j.buttonsPrev.left j.buttonsPrev.b).toNat * 2 +
      (p1Line j.sel j.buttonsPrev.right j.buttonsPrev.a).toNat) := by
  have hbits : ∀ (sel : BitVec 2) (d u l r : Bool),
      0b11#2 ++ sel ++ BitVec.ofBool d ++ BitVec.ofBool u ++ BitVec.ofBool l ++ BitVec.ofBool r =
        BitVec.ofNat 8 (0xC0 + sel.toNat * 16 + d.toNat * 8 + u.toNat * 4 + l.toNat * 2 + r.toNat) := by decide
  exact hbits _ _ _ _ _

/-! ### The polls of a step -/

/-- The buttons at poll `b` counted from `s`: poll 0 is the one made last before it (60_exceptions.md R301). -/
def heldAt (s : State) (b : Nat) : Buttons := if b = 0 then s.joypad.buttonsPrev else pollButtons (s.free.polls + (b - 1))

/-- What `polls` polls do, from `s` to `t` (60_exceptions.md R301). -/
structure Polled (s t : State) (polls : Nat) : Prop where
  sel : t.joypad.sel = s.joypad.sel
  timer : t.joypad.inputTimer = s.joypad.inputTimer - polls * s.cfg.inputPollPeriod
  free : t.free = { s.free with polls := s.free.polls + polls }
  held : t.joypad.buttonsPrev = heldAt s polls
  raised : t.iflag.getLsbD 4 = true ↔
    s.iflag.getLsbD 4 = true ∨ ∃ k, k < polls ∧ pressEdge (heldAt s k) (heldAt s (k + 1)) = true
  others : ∀ k, k ≠ 4 → t.iflag.getLsbD k = s.iflag.getLsbD k

theorem Polled.refl (s : State) : Polled s s 0 where
  sel := rfl
  timer := by rw [Nat.zero_mul, Nat.sub_zero]
  free := rfl
  held := rfl
  raised := ⟨Or.inl, fun h => h.elim id fun ⟨_, hk, _⟩ => absurd hk (Nat.not_lt_zero _)⟩
  others := fun _ _ => rfl

theorem inputPoll_joypad (s : State) :
    (inputPoll s).joypad = { s.joypad with inputTimer := s.joypad.inputTimer - s.cfg.inputPollPeriod
                                           buttonsPrev := pollButtons s.free.polls } := by
  unfold inputPoll
  dsimp only
  split <;> rfl

theorem inputPoll_free (s : State) : (inputPoll s).free = { s.free with polls := s.free.polls + 1 } := by
  unfold inputPoll
  dsimp only
  split <;> rfl

/-- A poll raises the joypad's bit exactly on a press (60_exceptions.md R301). -/
theorem inputPoll_getLsbD (s : State) (k : Nat) :
    (inputPoll s).iflag.getLsbD k =
      (s.iflag.getLsbD k || (decide (4 = k) && pressEdge s.joypad.buttonsPrev (pollButtons s.free.polls))) := by
  unfold inputPoll
  dsimp only
  cases pressEdge s.joypad.buttonsPrev (pollButtons s.free.polls) with
  | false => rw [Bool.and_false, Bool.or_false]; rfl
  | true => rw [Bool.and_true]; exact raiseIf_getLsbD (by omega) s k

/-- After one poll the numbering from `s` goes on one later. -/
theorem heldAt_inputPoll (s : State) (b : Nat) : heldAt (inputPoll s) b = heldAt s (b + 1) := by
  have hsucc : heldAt s (b + 1) = pollButtons (s.free.polls + b) := rfl
  rw [hsucc, heldAt, inputPoll_joypad, inputPoll_free]
  split
  case isTrue hb => rw [hb]; rfl
  case isFalse hb => exact congrArg pollButtons (by dsimp only; omega)

/-- One poll more, before the others. -/
theorem Polled.poll {s t : State} {n : Nat} (h : Polled (inputPoll s) t n) : Polled s t (n + 1) where
  sel := by rw [h.sel, inputPoll_joypad]
  timer := by
    have hcfg : (inputPoll s).cfg = s.cfg := by rw [(inputPoll_fields s).1]
    rw [h.timer, hcfg, inputPoll_joypad, Nat.succ_mul, Nat.add_comm, Nat.sub_sub]
  free := by rw [h.free, inputPoll_free, Nat.add_assoc, Nat.add_comm 1 n]
  held := by rw [h.held, heldAt_inputPoll]
  raised := by
    rw [h.raised, inputPoll_getLsbD]
    simp only [heldAt_inputPoll, decide_true, Bool.true_and, Bool.or_eq_true, or_assoc]
    refine or_congr_right ⟨?_, ?_⟩
    · rintro (hfirst | ⟨k, hk, hedge⟩)
      · exact ⟨0, Nat.succ_pos n, hfirst⟩
      · exact ⟨k + 1, Nat.succ_lt_succ hk, hedge⟩
    · rintro ⟨k, hk, hedge⟩
      cases k with
      | zero => exact .inl hedge
      | succ k => exact .inr ⟨k, Nat.lt_of_succ_lt_succ hk, hedge⟩
  others := fun k hk => by
    rw [h.others k hk, inputPoll_getLsbD, decide_eq_false (Ne.symm hk), Bool.false_and, Bool.or_false]

/-- The loop polls as often as the period fits into the timer (60_exceptions.md R301). -/
theorem inputPolls_polled (n : Nat) (s : State) (hp : 0 < s.cfg.inputPollPeriod) (hn : s.joypad.inputTimer ≤ n) :
    Polled s (inputPolls n s) (s.joypad.inputTimer / s.cfg.inputPollPeriod) := by
  induction n generalizing s with
  | zero => rw [Nat.le_zero.mp hn, Nat.zero_div]; exact .refl s
  | succ n ih =>
    unfold inputPolls
    split
    case isTrue hge =>
      obtain ⟨hframe, htimer⟩ := inputPoll_fields s
      have hcfg : (inputPoll s).cfg = s.cfg := by rw [hframe]
      have hrest := ih (inputPoll s) (by rw [hcfg]; exact hp) (by rw [htimer]; omega)
      rw [hcfg, htimer] at hrest
      rw [Nat.div_eq_sub_div hp hge]
      exact hrest.poll
    case isFalse hlt => rw [Nat.div_eq_of_lt (Nat.lt_of_not_le hlt)]; exact .refl s

/-- Settles O58, by induction on the polls of the loop. -/
theorem joypadReadAndPoll : Obligations.JoypadReadAndPoll := by
  refine ⟨fun s => ?_, fun s c hp => ?_⟩
  · have hP1 : byteAt s 0xFF00 = some (p1Read s.joypad) := rfl
    dsimp only
    rw [hP1, p1Read_eq]
    simp only [p1Line_toNat]
  · obtain ⟨hframe, -⟩ := inputPolls_fields (s.joypad.inputTimer + c)
      { s with joypad := { s.joypad with inputTimer := s.joypad.inputTimer + c } } hp (Nat.le_refl _)
    have h := inputPolls_polled (s.joypad.inputTimer + c)
      { s with joypad := { s.joypad with inputTimer := s.joypad.inputTimer + c } } hp (Nat.le_refl _)
    have hrest : ∀ m p : Nat, m - m / p * p = m % p := fun m p => by
      rw [Nat.mul_comm]; exact (Nat.mod_eq_sub_mul_div).symm
    exact ⟨hframe, h.sel, h.timer.trans (hrest _ _), h.free, h.held, h.raised, h.others⟩

/-! ### The serial interface -/

/-- Settles O59, from the write to SC and the host's move. -/
theorem serialTransfer : Obligations.SerialTransfer := by
  refine ⟨fun s v => ?_, fun s h => ?_, fun s h => ⟨fun hnone => ?_, fun b hb => ?_⟩⟩
  · have hwrite : writeByte 0xFF02 v s = scWrite v s := rfl
    rw [hwrite, scWrite, getLsbD_seven, getLsbD_zero]
    by_cases hv : v.toNat ≥ 128
    · rw [if_pos (decide_eq_true hv), if_pos hv]; rfl
    · rw [if_neg (by rw [decide_eq_false hv]; exact Bool.false_ne_true), if_neg hv]
  · rw [serialMove, h]; rfl
  · rw [serialMove, h, if_pos rfl, hnone]
  · rw [serialMove, h, if_pos rfl, hb]; rfl

end Sys2Proof.Machine
end

