-- ==== Sys2Proof/Proofs/SessionStart.lean ====
section
/-! SUPPORT. The start of a session: the load-time checks (20_memory.md R49, R71, R72, R76, R77; 60_exceptions.md R252) and the reset
states (70_reset_and_hazards.md R320 to R322). -/

namespace Sys2Proof

/-- A loaded image holds its bytes in order, and 0 past its end (00_scope.md R6). -/
theorem Memory.get_ofBytes_add (bs : List Byte) (k i : Nat) : Memory.get (Memory.ofBytes k bs) (k + i) = bs.getD i 0 := by
  induction bs generalizing k i with
  | nil => rfl
  | cons b rest ih =>
    have hwf := Memory.ofBytes_wf_from (k + 1 + rest.length) (k + 1) rest (some k)
      (fun j hj => by injection hj with hj; omega) (Nat.le_refl _)
    cases i with
    | zero => exact Memory.get_cell_self k b _ (Memory.get_le _ k k _ hwf (Nat.le_refl k))
    | succ i =>
      have hrest := ih (k + 1) i
      rw [Nat.add_right_comm, Nat.add_assoc] at hrest
      exact (Memory.get_cell_ne k (k + (i + 1)) b _ (by omega)).trans hrest

theorem Memory.get_ofBytes (bs : List Byte) (i : Nat) : Memory.get (Memory.ofBytes 0 bs) i = bs.getD i 0 := by
  have h := Memory.get_ofBytes_add bs 0 i
  rwa [Nat.zero_add] at h

end Sys2Proof

namespace Sys2Proof.Machine

/-! ### The load-time checks -/

/-- Code 0 alone is no mapper (20_memory.md R76). -/
theorem mapperOfCode_some {n : Nat} {m : MapperType} (h : mapperOfCode n = some m) : m = .none ↔ n = 0 := by
  unfold mapperOfCode at h
  split at h <;> cases h <;> decide

theorem mapperOfCode_eq_none {n : Nat} (h : n > 3) : mapperOfCode n = none := by
  unfold mapperOfCode
  split
  case h_5 => rfl
  all_goals omega

/-- What a cartridge that loads has passed, and what it holds (20_memory.md R71, R72, R77). -/
structure CartLoaded (rom ram : List Byte) (cart : Cartridge) : Prop where
  mapper : mapperOfCode (headerByte rom 0x0147) = some cart.mapper
  allows : mapperAllows cart.mapper cart.romBanks cart.ramBanks = true
  romLength : rom.length = 16384 * cart.romBanks
  ramLength : ram.length = 8192 * cart.ramBanks
  rom : cart.rom = Memory.ofBytes 0 rom
  ramInit : cart.ramInit = Memory.ofBytes 0 ram

theorem cartLoaded_of_ok {rom ram : List Byte} {cart : Cartridge} (h : loadCartridge rom ram = .ok cart) :
    CartLoaded rom ram cart := by
  unfold loadCartridge at h
  split at h
  case h_1 => cases h
  case h_2 m romBanks ramBanks hm _ _ =>
    split at h
    case isTrue hchecks =>
      obtain ⟨hallows, hrom, hram⟩ := hchecks
      cases h
      exact ⟨hm, hallows, hrom, hram, rfl, rfl⟩
    case isFalse => cases h
  case h_3 => cases h

theorem loadCartridge_of_unsupported {rom ram : List Byte} (h : headerByte rom 0x0147 > 3) :
    loadCartridge rom ram = .error .unsupportedMapper := by
  rw [loadCartridge, mapperOfCode_eq_none h]

/-- A boot image that loads is a canonical memory of 256 bytes; none given is none loaded (20_memory.md R49). -/
theorem loadBoot_of_ok {boot : Option (List Byte)} {b : Option Memory} (h : loadBoot boot = .ok b) :
    (b = none ↔ boot = none) ∧ ∀ m, b = some m → Memory.wf 256 m = true := by
  unfold loadBoot at h
  split at h
  case h_1 => cases h; exact ⟨⟨fun _ => rfl, fun _ => rfl⟩, fun _ hm => by cases hm⟩
  case h_2 bs =>
    split at h
    case isTrue hlen =>
      cases h
      refine ⟨⟨(by intro hb; cases hb), (by intro hb; cases hb)⟩, fun m hm => ?_⟩
      cases hm
      exact hlen ▸ Memory.ofBytes_wf bs
    case isFalse => cases h

theorem loadBoot_of_length {bs : List Byte} (h : bs.length ≠ 256) : loadBoot (some bs) = .error .malformedImage := if_neg h

theorem startSession_of_ok {rom ram : List Byte} {boot : Option (List Byte)} {policy : HaltPolicy} {period : Nat} {s : State}
    (h : startSession rom ram boot policy period = .ok s) :
    ∃ cart b, loadCartridge rom ram = .ok cart ∧ loadBoot boot = .ok b ∧
      s = State.resetWith { cart := cart, boot := b, haltPolicy := policy, inputPollPeriod := period } := by
  unfold startSession at h
  split at h
  case h_1 cart b hcart hboot => cases h; exact ⟨cart, b, hcart, hboot, rfl⟩
  case h_2 => cases h
  case h_3 => cases h

/-- A configuration built from images that load passes every check (60_exceptions.md R252). -/
theorem configValid_of_loaded {rom ram : List Byte} {cart : Cartridge} (hcart : CartLoaded rom ram cart) {boot : Option Memory}
    (hboot : ∀ m, boot = some m → Memory.wf 256 m = true) {policy : HaltPolicy} {period : Nat} (hp : period > 0) :
    configValid { cart := cart, boot := boot, haltPolicy := policy, inputPollPeriod := period } = true := by
  have hrom : Memory.wf (16384 * cart.romBanks) cart.rom = true := by
    rw [hcart.rom, ← hcart.romLength]; exact Memory.ofBytes_wf rom
  have hram : Memory.wf (8192 * cart.ramBanks) cart.ramInit = true := by
    rw [hcart.ramInit, ← hcart.ramLength]; exact Memory.ofBytes_wf ram
  have hperiod := decide_eq_true hp
  cases boot with
  | none => simp only [configValid, hcart.allows, hrom, hram, hperiod, Bool.and_self]
  | some m => simp only [configValid, hcart.allows, hrom, hram, hperiod, hboot m rfl, Bool.and_self]

/-- Settles O60, from what the cartridge and the boot image have passed. -/
theorem loadTimeRefusals : Obligations.LoadTimeRefusals := by
  refine ⟨fun rom ram boot policy period s hp hs => ?_, fun rom ram boot policy period hcode => ?_,
    fun rom ram bs policy period cart hcart hlen => ?_⟩
  · obtain ⟨cart, b, hcart, hb, rfl⟩ := startSession_of_ok hs
    have hloaded := cartLoaded_of_ok hcart
    obtain ⟨hnone, hwf⟩ := loadBoot_of_ok hb
    exact ⟨_, rfl, configValid_of_loaded hloaded hwf hp, hloaded.romLength, hloaded.ramLength, mapperOfCode_some hloaded.mapper,
      hnone, fun k => by rw [hloaded.rom, Memory.get_ofBytes], fun k => by rw [hloaded.ramInit, Memory.get_ofBytes]⟩
  · rw [startSession, loadCartridge_of_unsupported hcode]
  · rw [startSession, hcart, loadBoot_of_length hlen]

/-! ### Reset -/

/-- What the checks say of the battery RAM and the poll period (60_exceptions.md R252). -/
theorem ramInit_wf_of_configValid {cfg : Config} (h : configValid cfg = true) :
    Memory.wf (8192 * cfg.cart.ramBanks) cfg.cart.ramInit = true ∧ cfg.inputPollPeriod > 0 := by
  simp only [configValid, Bool.and_eq_true, decide_eq_true_eq] at h
  obtain ⟨⟨⟨-, hram⟩, -⟩, hp⟩ := h
  exact ⟨hram, hp⟩

theorem reset_bank1 : MapperRegs.reset.bank1 ≠ 0 := by decide

theorem postBoot_inv {cfg : Config} (h : configValid cfg = true) : (State.postBoot cfg).Inv where
  cfgValid := h
  bootImage := fun hb => absurd hb Bool.false_ne_true
  vramWf := rfl
  wramWf := rfl
  oamWf := rfl
  hramWf := rfl
  cartRamWf := (ramInit_wf_of_configValid h).1
  bank1 := reset_bank1
  sub := Nat.zero_lt_succ _
  ly := Nat.zero_lt_succ _
  dot := Nat.zero_lt_succ _
  m3low := (mode3Len_range 0 0).1
  m3high := (mode3Len_range 0 0).2
  lcdOff := fun hoff => absurd hoff (show (0x91 : Byte).getLsbD 7 ≠ false by decide)
  lcdMode := fun _ => rfl
  inputTimer := (ramInit_wf_of_configValid h).2
  haltBug := fun hb => absurd hb Bool.false_ne_true

theorem powerOn_inv {cfg : Config} (h : configValid cfg = true) (hboot : cfg.boot.isSome = true) : (State.powerOn cfg).Inv where
  cfgValid := h
  bootImage := fun _ => hboot
  vramWf := rfl
  wramWf := rfl
  oamWf := rfl
  hramWf := rfl
  cartRamWf := (ramInit_wf_of_configValid h).1
  bank1 := reset_bank1
  sub := Nat.zero_lt_succ _
  ly := Nat.zero_lt_succ _
  dot := Nat.zero_lt_succ _
  m3low := Nat.le_refl 172
  m3high := show 172 ≤ 289 by decide
  lcdOff := fun _ => ⟨rfl, rfl, rfl⟩
  lcdMode := fun hon => absurd hon (show (0x00 : Byte).getLsbD 7 ≠ true by decide)
  inputTimer := (ramInit_wf_of_configValid h).2
  haltBug := fun hb => absurd hb Bool.false_ne_true

theorem resetWith_of_boot_some {cfg : Config} {boot : Memory} (h : cfg.boot = some boot) :
    State.resetWith cfg = State.powerOn cfg := by
  rw [State.resetWith, h]

/-- Reset meets the invariant with every configuration that passes the checks. -/
theorem resetWith_inv {cfg : Config} (h : configValid cfg = true) : (State.resetWith cfg).Inv := by
  cases hboot : cfg.boot with
  | none => rw [resetWith_of_boot_none hboot]; exact postBoot_inv h
  | some boot => rw [resetWith_of_boot_some hboot]; exact powerOn_inv h (by rw [hboot]; rfl)

/-- Settles O12, from the two reset states. -/
theorem resetMeetsInvariant : Obligations.ResetMeetsInvariant := by
  have hdefault : configValid Config.default = true := by decide
  exact ⟨resetWith_inv hdefault, fun cfg h => resetWith_inv h⟩

/-- Settles O21: the values stand in the definition; the first fetch is answered by the overlay. -/
theorem powerOnReset : Obligations.PowerOnReset := by
  intro cfg boot hboot
  dsimp only
  rw [resetWith_of_boot_some hboot]
  have hfirst : byteAt (State.powerOn cfg) 0x0000 = some (Memory.get boot 0) :=
    (byteAt_of_region_romLow (region_romLow (by decide))).trans
      (congrArg some (romLowRead_of_overlay (by decide) rfl hboot))
  exact ⟨rfl, rfl, rfl, rfl, rfl, rfl, rfl, rfl, rfl, rfl, rfl, rfl, rfl, rfl, rfl, rfl, rfl, rfl, rfl, rfl, rfl, rfl, rfl,
    readByte_of_byteAt_some hfirst⟩

end Sys2Proof.Machine
end

