-- ==== Sys2Proof/Proofs/DecimalDigits.lean ====
section
/-! SUPPORT. Decimal arithmetic: an addition or subtraction of packed digits and the adjustment after it (42_alu8.md R151 to R154,
R163). -/

namespace Sys2Proof.Machine

/-! ### Packed digits -/

theorem isBcd_bcdValue_le {v : Byte} (h : isBcd v) : bcdValue v ≤ 99 := by
  obtain ⟨hhigh, hlow⟩ := h
  unfold bcdValue
  omega

theorem bcdValue_eq_zero_iff (v : Byte) : bcdValue v = 0 ↔ v.toNat = 0 := by
  unfold bcdValue
  omega

/-! ### The adjustment's arithmetic -/

/-- The correction of a sum `high * 16 + low` of packed digits, `high` and `low` the sums of the digits: the half carry and the carry
of the sum, or its digits out of range, tell exactly whether a digit's sum, with what came into it, is ten or more. -/
theorem corrected_sum {high low r : Nat} (hhigh : high ≤ 18) (hlow : low ≤ 19)
    (hr : r = (high * 16 + low) % 256 + (if high * 16 + low > 0xFF ∨ (high * 16 + low) % 256 > 0x99 then 0x60 else 0) +
      (if low > 0x0F ∨ (high * 16 + low) % 256 % 16 > 0x9 then 0x06 else 0)) :
    r % 256 / 16 ≤ 9 ∧ r % 256 % 16 ≤ 9 ∧ r % 256 / 16 * 10 + r % 256 % 16 = (high * 10 + low) % 100 := by
  have hcarry : (high * 16 + low > 0xFF ∨ (high * 16 + low) % 256 > 0x99) ↔ high * 10 + low ≥ 100 := by omega
  have hhalf : (low > 0x0F ∨ (high * 16 + low) % 256 % 16 > 0x9) ↔ low ≥ 10 := by omega
  rw [if_congr hcarry rfl rfl, if_congr hhalf rfl rfl] at hr
  obtain ⟨d, e, hd, he, hbyte, hvalue⟩ : ∃ d e, d ≤ 9 ∧ e ≤ 9 ∧ r % 256 = d * 16 + e ∧
      (high * 10 + low) % 100 = d * 10 + e := by
    split at hr <;> split at hr
    · exact ⟨high - 9, low - 10, by omega⟩
    · exact ⟨high - 10, low, by omega⟩
    · exact ⟨high + 1, low - 10, by omega⟩
    · exact ⟨high, low, by omega⟩
  omega

/-- The correction of a difference `high * 16 + low` of packed digits: the borrows tell which digit went below zero. -/
theorem corrected_difference {high low r : Int} (hhigh : -9 ≤ high ∧ high ≤ 9) (hlow : -10 ≤ low ∧ low ≤ 9)
    (hr : r = (high * 16 + low) % 256 - (if high * 16 + low < 0 then 0x60 else 0) - (if low < 0 then 0x06 else 0)) :
    r % 256 / 16 ≤ 9 ∧ r % 256 % 16 ≤ 9 ∧ r % 256 / 16 * 10 + r % 256 % 16 = (high * 10 + low + 200) % 100 := by
  obtain ⟨d, e, hd, he, hbyte, hvalue⟩ : ∃ d e, (0 ≤ d ∧ d ≤ 9) ∧ (0 ≤ e ∧ e ≤ 9) ∧ r % 256 = d * 16 + e ∧
      (high * 10 + low + 200) % 100 = d * 10 + e := by
    split at hr <;> split at hr
    · exact ⟨high + 9, low + 10, by omega⟩
    · exact ⟨high + 10, low, by omega⟩
    · exact ⟨high - 1, low + 10, by omega⟩
    · exact ⟨high, low, by omega⟩
  omega

/-! ### The outcomes -/

/-- `DAA` after an operation with outcome `o` (42_alu8.md R163). -/
def adjusted (o : AluOut) : AluOut := daaOut o.r o.n o.h o.c

theorem adjusted_zero (o : AluOut) : (adjusted o).z = decide (bcdValue (adjusted o).r = 0) := by
  have hz : (adjusted o).z = ((adjusted o).r == 0) := by unfold adjusted daaOut; split <;> rfl
  rw [hz, beq_eq_decide]
  refine decide_eq_decide.mpr ?_
  rw [bcdValue_eq_zero_iff, BitVec.toNat_eq]
  rfl

/-- A sum of packed digits, adjusted, is the decimal sum. -/
theorem adjusted_addOut {x y : Byte} (hx : isBcd x) (hy : isBcd y) (ci : Bool) :
    let o := adjusted (addOut x y ci)
    isBcd o.r ∧ bcdValue o.r = (bcdValue x + bcdValue y + ci.toNat) % 100 ∧
      o.c = decide (bcdValue x + bcdValue y + ci.toNat ≥ 100) := by
  obtain ⟨hx1, hx2⟩ := hx
  obtain ⟨hy1, hy2⟩ := hy
  have hci := ci.toNat_lt
  obtain ⟨high, hhigh⟩ : ∃ high, high = x.toNat / 16 + y.toNat / 16 := ⟨_, rfl⟩
  obtain ⟨low, hlow⟩ : ∃ low, low = x.toNat % 16 + y.toNat % 16 + ci.toNat := ⟨_, rfl⟩
  have hsum : x.toNat + y.toNat + ci.toNat = high * 16 + low := by omega
  have hresult : (adjusted (addOut x y ci)).r.toNat =
      ((high * 16 + low) % 256 + (if high * 16 + low > 0xFF ∨ (high * 16 + low) % 256 > 0x99 then 0x60 else 0) +
        (if low > 0x0F ∨ (high * 16 + low) % 256 % 16 > 0x9 then 0x06 else 0)) % 256 := by
    rw [adjusted, addOut_eq, daaOut_of_added rfl]
    simp only [Bool.or_eq_true, decide_eq_true_eq, BitVec.toNat_ofNat, hsum, ← hlow]
  have hcarry : (adjusted (addOut x y ci)).c = decide (high * 16 + low > 0xFF ∨ (high * 16 + low) % 256 > 0x99) := by
    rw [adjusted, addOut_eq, daaOut_of_added rfl, Bool.decide_or]
    simp only [BitVec.toNat_ofNat, hsum]
  obtain ⟨hdigit1, hdigit2, hvalue⟩ := corrected_sum (high := high) (low := low) (by omega) (by omega) rfl
  rw [← hresult] at hdigit1 hdigit2 hvalue
  dsimp only
  rw [hcarry]
  unfold isBcd bcdValue
  exact ⟨⟨hdigit1, hdigit2⟩, by omega, decide_eq_decide.mpr (by omega)⟩

/-- A difference of packed digits, adjusted, is the decimal difference. -/
theorem adjusted_subOut {x y : Byte} (hx : isBcd x) (hy : isBcd y) (ci : Bool) :
    let o := adjusted (subOut x y ci)
    isBcd o.r ∧ bcdValue o.r = (bcdValue x + 200 - bcdValue y - ci.toNat) % 100 ∧
      o.c = decide (bcdValue x < bcdValue y + ci.toNat) := by
  obtain ⟨hx1, hx2⟩ := hx
  obtain ⟨hy1, hy2⟩ := hy
  have hci := ci.toNat_lt
  obtain ⟨high, hhigh⟩ : ∃ high : Int, high = (x.toNat / 16 : Nat) - (y.toNat / 16 : Nat) := ⟨_, rfl⟩
  obtain ⟨low, hlow⟩ : ∃ low : Int, low = (x.toNat % 16 : Nat) - (y.toNat % 16 : Nat) - ci.toNat := ⟨_, rfl⟩
  have hdiff : (x.toNat : Int) - y.toNat - ci.toNat = high * 16 + low := by omega
  have hhalf : x.toNat % 16 < y.toNat % 16 + ci.toNat ↔ low < 0 := by omega
  have hresult : ((adjusted (subOut x y ci)).r.toNat : Int) =
      ((high * 16 + low) % 256 - (if high * 16 + low < 0 then 0x60 else 0) - (if low < 0 then 0x06 else 0)) % 256 := by
    rw [adjusted, subOut_eq, daaOut_of_subtracted rfl]
    simp only [decide_eq_true_eq, BitVec.toNat_ofInt, hdiff, hhalf]
    omega
  have hborrow : (adjusted (subOut x y ci)).c = decide (x.toNat < y.toNat + ci.toNat) := rfl
  obtain ⟨hdigit1, hdigit2, hvalue⟩ := corrected_difference (high := high) (low := low) (by omega) (by omega) rfl
  rw [← hresult] at hdigit1 hdigit2 hvalue
  dsimp only
  rw [hborrow]
  unfold isBcd bcdValue
  exact ⟨⟨by omega, by omega⟩, by omega, decide_eq_decide.mpr (by omega)⟩

/-! ### The two instructions -/

/-- An operation that writes A, and `DAA` after it, in terms of their outcomes. -/
theorem exec_aluImm_daa {op : AluOp} {n : Byte} {s : State} {o : AluOut} (ho : aluOut op s.a n s.fC = o)
    (hkeeps : ∀ r, aluKeeps op s.a r = r) :
    ∃ t u, exec (Form.aluImm op n) s = .next t ∧ exec .daa t = .next u ∧
      u.a = (adjusted o).r ∧ u.fC = (adjusted o).c ∧ u.fZ = decide (bcdValue (adjusted o).r = 0) := by
  refine ⟨aluApply op n 8 s, adjustA (aluApply op n 8 s), exec_aluImm op n s, rfl, ?_⟩
  have hdaa : daaOut (aluApply op n 8 s).a (aluApply op n 8 s).fN (aluApply op n 8 s).fH (aluApply op n 8 s).fC = adjusted o := by
    rw [aluApply_of_aluOut ho]
    dsimp only
    rw [hkeeps]
    rfl
  rw [adjustA_of_daaOut hdaa]
  exact ⟨rfl, rfl, adjusted_zero o⟩

/-- Settles O35, from the adjusted sum and the adjusted difference. -/
theorem decimalArithmetic : Obligations.DecimalArithmetic := by
  intro s n ha hn
  have hnle := isBcd_bcdValue_le hn
  refine ⟨?_, ?_, ?_, ?_⟩
  · obtain ⟨t, u, ht, hu, hua, huc, huz⟩ := exec_aluImm_daa (op := .adc) (n := n) (s := s) rfl (fun _ => rfl)
    obtain ⟨hbcd, hvalue, hcarry⟩ := adjusted_addOut ha hn s.fC
    refine ⟨t, u, ht, hu, ?_⟩
    rw [hua, huc, huz]
    exact ⟨hbcd, hvalue, hcarry, rfl⟩
  · obtain ⟨t, u, ht, hu, hua, huc, huz⟩ := exec_aluImm_daa (op := .sbc) (n := n) (s := s) rfl (fun _ => rfl)
    obtain ⟨hbcd, hvalue, hborrow⟩ := adjusted_subOut ha hn s.fC
    refine ⟨t, u, ht, hu, ?_⟩
    rw [hua, huc, huz]
    exact ⟨hbcd, hvalue, hborrow, rfl⟩
  · obtain ⟨t, u, ht, hu, hua, huc, -⟩ := exec_aluImm_daa (op := .add) (n := n) (s := s) rfl (fun _ => rfl)
    obtain ⟨hbcd, hvalue, hcarry⟩ := adjusted_addOut ha hn false
    refine ⟨t, u, ht, hu, ?_⟩
    rw [hua, huc]
    exact ⟨hbcd, hvalue, hcarry⟩
  · obtain ⟨t, u, ht, hu, hua, huc, -⟩ := exec_aluImm_daa (op := .sub) (n := n) (s := s) rfl (fun _ => rfl)
    obtain ⟨hbcd, hvalue, hborrow⟩ := adjusted_subOut ha hn false
    refine ⟨t, u, ht, hu, ?_⟩
    rw [hua, huc]
    exact ⟨hbcd, hvalue.trans (by rw [Bool.toNat_false]; omega), hborrow⟩

end Sys2Proof.Machine
end
